-- ==== Sys2Proof/Word.lean ====
section
/-! DEFINITION. The data of the bulk-transfer core: words, the four-lane tuple, and the small named
sets of the spec (00_scope.md R8, R20, R22). -/

namespace Sys2Proof

/-- A data word: "one 16-bit word per unit per transfer" (00_scope.md R8). -/
abbrev Word := BitVec 16

/-- SENTINEL, the hardware's 'no data' marker, 0xFFFF (00_scope.md R8). -/
def sentinel : Word := 0xFFFF

/-- A baud-rate code, 0..3 (10_state.md R35). -/
abbrev BaudRate := BitVec 2

/-- Four lanes, one per peer slot: lane p belongs to slot p (00_scope.md R22, "Tuple"). -/
structure Four (α : Type) where
  l0 : α
  l1 : α
  l2 : α
  l3 : α
deriving DecidableEq, Repr, Inhabited

/-- A player, which is also a peer slot: "ordinal also indexes hardware peer slots"
(00_scope.md R20, R22). -/
inductive PlayerId where
  | p0 | p1 | p2 | p3
deriving DecidableEq, Repr, Inhabited

/-- The hardware role (00_scope.md R22, 60_exceptions.md R321). -/
inductive Role where
  | parent | child
deriving DecidableEq, Repr, Inhabited

/-- CONFIG: which commands the port accepts (00_scope.md R10). -/
inductive PortConfig where
  /-- SM.* and SC.* are accepted; RB and TB belong to SC. -/
  | session
  /-- RB.* and TB.* are accepted, on one instance of each. -/
  | standalone
deriving DecidableEq, Repr, Inhabited

end Sys2Proof
end

