-- ==== Sys2Proof/Config.lean ====
section
/-! DEFINITION. What is fixed for a run (the parameters of 00_scope.md R10) and what the spec leaves
to the environment at every step (the draws of 20_memory.md R88 to R98 and the schedule of
60_exceptions.md R313), with the one constant that has no body. -/

namespace Sys2Proof

/-- The parameters "the model takes as arguments" (00_scope.md R10). ROLE_HW is not stored: "POS_HW
is 0 if and only if ROLE_HW = PARENT", so it is read off `posHw` (log 4, log 16). -/
structure Params where
  /-- CAP_MAX -/
  capMax  : Nat
  /-- CONFIG -/
  config  : PortConfig
  /-- ALT_RCNT -/
  altRcnt : Word
  /-- LR_BASE -/
  lrBase  : BitVec 32
  /-- POS_HW -/
  posHw   : PlayerId
  /-- PRESENT, as one bit per slot -/
  present : Four Bool
deriving DecidableEq, Repr, Inhabited

/-- The parameters `State.reset` carries: the spec's defaults where 00_scope.md R10 gives one
(ALT_RCNT, LR_BASE); DESIGN CHOICE for the OPEN ones, unsafe (log 4). -/
def Params.default : Params where
  capMax  := 32767
  config  := .session
  altRcnt := 0x8000
  lrBase  := 0x04000000
  posHw   := .p0
  present := ⟨false, false, false, false⟩

/-- Which agent takes the next atomic step (00_scope.md R4). A choice whose agent has nothing
enabled leaves the state as it is (log 6). -/
inductive Turn where
  /-- The foreground. -/
  | fg
  /-- The interrupt agent: takes the interrupt, or carries the handler forward. -/
  | isr
  /-- LINK, the remote parent's start (20_memory.md R91). -/
  | linkBegin
  /-- LINK, a transfer completion (20_memory.md R92). -/
  | linkComplete
deriving DecidableEq, Repr, Inhabited

/-- The environment's draws for ONE atomic step. Nothing constrains any of them. -/
structure Env where
  /-- Who moves (60_exceptions.md R313: "FG and LINK are scheduled freely"). -/
  turn       : Turn
  /-- peers_ready (20_memory.md R93). -/
  peersReady : Bool
  /-- The bits an SIOCNT read returns where the spec makes them draws: SI, SD, ID and ERR outside
  multiplayer mode, ID while id_valid = 0 (10_state.md R34, 20_memory.md R95). -/
  garbage    : Word
  /-- ERR at a mode entry or a completion (20_memory.md R96). -/
  err        : Bool
  /-- Whether a start requested with SD = 0 begins a transfer (20_memory.md R90). -/
  race       : Bool
  /-- Whether a transfer in progress is abandoned when the mode leaves multiplayer
  (20_memory.md R88). -/
  abandon    : Bool
  /-- The peer words of a completion (20_memory.md R98), or the RECV contents of an abandoned
  transfer (R88). -/
  words      : Four Word
deriving DecidableEq, Repr, Inhabited

/-- The environment's draws, one for each step after the first of a run. A free value: it has no
body, so nothing can evaluate it or prove a value of it (log 5). -/
opaque Config.draws : Nat → Env

end Sys2Proof
end

