-- ==== Sys2Proof/Syntax.lean ====
section
/-! DEFINITION. The commands of the command port, one constructor per row of
spec/opcode_table.json (30_encoding.md R117), with operands already decoded (R116). -/

namespace Sys2Proof

/-- A command, as decoded. Operands are values, not fields: a rate, a slot, a flag, a word, a
count, a capacity, a payload (30_encoding.md R113, R116). -/
inductive Instr where
  -- SM: the transfer state machine (40_transfer_state_machine.md)
  | smInit (rate : BaudRate)
  | smStart
  | smReady
  | smUnready
  | smStatus
  | smId
  | smSend (word : Word)
  | smRecv (slot : PlayerId)
  | smDiscover
  | smRole
  -- RB: the ring buffer (41_ring_buffer.md)
  | rbAlloc (cap : Word)
  | rbFree
  | rbPush (word : Word)
  | rbPop
  | rbReadBulk (count : Word)
  | rbWriteBulk (words : List Word)
  | rbLen
  -- TB: the fan-out transfer buffer (42_transfer_buffer.md)
  | tbAlloc (cap : Word)
  | tbFree
  | tbPush (tuple : Four Word)
  | tbPop
  | tbPeek
  | tbReadBulk (counts : Four Word)
  | tbLen
  -- SC: the bulk session (43_session.md)
  | scNew (rate : BaudRate) (cap : Word)
  | scQueueSend (words : List Word)
  | scTick
  | scReadBulk (counts : Four Word)
  | scReadAll (counts : Four Word)
  | scSkipEmpty
  | scId
  | scBlock (flag : Bool)
  | scLeave
  -- the interrupt handler (44_interrupt_handler.md)
  | isrXferDone
deriving DecidableEq, Repr

/-- The rows of the opcode map without their operands (30_encoding.md R117). -/
inductive Op where
  | smInit | smStart | smReady | smUnready | smStatus | smId | smSend | smRecv | smDiscover | smRole
  | rbAlloc | rbFree | rbPush | rbPop | rbReadBulk | rbWriteBulk | rbLen
  | tbAlloc | tbFree | tbPush | tbPop | tbPeek | tbReadBulk | tbLen
  | scNew | scQueueSend | scTick | scReadBulk | scReadAll | scSkipEmpty | scId | scBlock | scLeave
  | isrXferDone
deriving DecidableEq, Repr

/-- The formats of 30_encoding.md R113. -/
inductive Fmt where
  | h | a | i | ai | n | q
deriving DecidableEq, Repr

/-- The pseudo-commands of 30_encoding.md R122. -/
inductive Pseudo where
  /-- SC.READ_EVEN n -/
  | readEven (n : Word)
  /-- SC.READ_ALL_EVEN n -/
  | readAllEven (n : Word)
  /-- SC.QUEUE1 v -/
  | queue1 (v : Word)
  /-- RB.WRITE1 v -/
  | write1 (v : Word)
  /-- TB.DROP -/
  | drop
  /-- SM.CYCLE_READY -/
  | cycleReady
deriving DecidableEq, Repr

end Sys2Proof
end

