-- ==== Sys2Proof/WellFormed.lean ====
section
/-! DEFINITION. Which commands an encoding exists for. Every operand type admits exactly the values
its field holds, but for the payload of format N, whose length must fit IMM16 (30_encoding.md R112). -/

namespace Sys2Proof

/-- The payload length of format N is the 16-bit field IMM16 (30_encoding.md R112, R113). -/
abbrev payloadFits (words : List Word) : Prop := words.length < 2 ^ 16

/-- A command that has an encoding. A capacity out of range is encodable: it is refused by the
command's rule, after decoding (30_encoding.md R116). -/
abbrev Instr.wf : Instr → Prop
  | .rbWriteBulk ws => payloadFits ws
  | .scQueueSend ws => payloadFits ws
  | .smInit _ => True
  | .smStart => True
  | .smReady => True
  | .smUnready => True
  | .smStatus => True
  | .smId => True
  | .smSend _ => True
  | .smRecv _ => True
  | .smDiscover => True
  | .smRole => True
  | .rbAlloc _ => True
  | .rbFree => True
  | .rbPush _ => True
  | .rbPop => True
  | .rbReadBulk _ => True
  | .rbLen => True
  | .tbAlloc _ => True
  | .tbFree => True
  | .tbPush _ => True
  | .tbPop => True
  | .tbPeek => True
  | .tbReadBulk _ => True
  | .tbLen => True
  | .scNew _ _ => True
  | .scTick => True
  | .scReadBulk _ => True
  | .scReadAll _ => True
  | .scSkipEmpty => True
  | .scId => True
  | .scBlock _ => True
  | .scLeave => True
  | .isrXferDone => True

end Sys2Proof
end

