-- ==== Sys2Proof/Decode.lean ====
section
/-! DEFINITION. The decoder of the command port (30_encoding.md R111 to R119), total on any
halfwords and refusing by name, and after it the encoder, written from the same formats. -/

namespace Sys2Proof

/-! ### Small sets and their codes -/

/-- A slot or ID field: 0..3 (30_encoding.md R116). -/
def PlayerId.ofBits (b : BitVec 2) : PlayerId :=
  if b = 0 then .p0 else if b = 1 then .p1 else if b = 2 then .p2 else .p3

/-- PlayerId P0 to P3, encoded 0 to 3 (00_scope.md R20). -/
def PlayerId.toBits : PlayerId → BitVec 2
  | .p0 => 0
  | .p1 => 1
  | .p2 => 2
  | .p3 => 3

/-- The opcode of a row (30_encoding.md R117). -/
def Op.code : Op → BitVec 8
  | .smInit => 0x01
  | .smStart => 0x02
  | .smReady => 0x03
  | .smUnready => 0x04
  | .smStatus => 0x05
  | .smId => 0x06
  | .smSend => 0x07
  | .smRecv => 0x08
  | .smDiscover => 0x09
  | .smRole => 0x0A
  | .rbAlloc => 0x10
  | .rbFree => 0x11
  | .rbPush => 0x12
  | .rbPop => 0x13
  | .rbReadBulk => 0x14
  | .rbWriteBulk => 0x15
  | .rbLen => 0x16
  | .tbAlloc => 0x20
  | .tbFree => 0x21
  | .tbPush => 0x22
  | .tbPop => 0x23
  | .tbPeek => 0x24
  | .tbReadBulk => 0x25
  | .tbLen => 0x26
  | .scNew => 0x30
  | .scQueueSend => 0x31
  | .scTick => 0x32
  | .scReadBulk => 0x33
  | .scReadAll => 0x34
  | .scSkipEmpty => 0x35
  | .scId => 0x36
  | .scBlock => 0x37
  | .scLeave => 0x38
  | .isrXferDone => 0x40

/-- The format of a row (30_encoding.md R113, R117). -/
def Op.fmt : Op → Fmt
  | .smInit | .smRecv | .scBlock => .a
  | .smSend | .rbAlloc | .rbPush | .rbReadBulk | .tbAlloc => .i
  | .scNew => .ai
  | .rbWriteBulk | .scQueueSend => .n
  | .tbPush | .tbReadBulk | .scReadBulk | .scReadAll => .q
  | .smStart | .smReady | .smUnready | .smStatus | .smId | .smDiscover | .smRole => .h
  | .rbFree | .rbPop | .rbLen | .tbFree | .tbPop | .tbPeek | .tbLen => .h
  | .scTick | .scSkipEmpty | .scId | .scLeave | .isrXferDone => .h

/-- The CONFIG column of the opcode map (30_encoding.md R117). -/
def Op.config : Op → PortConfig
  | .rbAlloc | .rbFree | .rbPush | .rbPop | .rbReadBulk | .rbWriteBulk | .rbLen => .standalone
  | .tbAlloc | .tbFree | .tbPush | .tbPop | .tbPeek | .tbReadBulk | .tbLen => .standalone
  | .smInit | .smStart | .smReady | .smUnready | .smStatus | .smId | .smSend | .smRecv => .session
  | .smDiscover | .smRole => .session
  | .scNew | .scQueueSend | .scTick | .scReadBulk | .scReadAll | .scSkipEmpty => .session
  | .scId | .scBlock | .scLeave | .isrXferDone => .session

/-- The opcode map in the order of 30_encoding.md R117. -/
def Op.all : List Op :=
  let sm : List Op :=
    [.smInit, .smStart, .smReady, .smUnready, .smStatus, .smId, .smSend, .smRecv, .smDiscover, .smRole]
  let rb : List Op := [.rbAlloc, .rbFree, .rbPush, .rbPop, .rbReadBulk, .rbWriteBulk, .rbLen]
  let tb : List Op := [.tbAlloc, .tbFree, .tbPush, .tbPop, .tbPeek, .tbReadBulk, .tbLen]
  let sc : List Op :=
    [.scNew, .scQueueSend, .scTick, .scReadBulk, .scReadAll, .scSkipEmpty, .scId, .scBlock, .scLeave]
  sm ++ rb ++ tb ++ sc ++ [.isrXferDone]

/-- OpcodeMap[opc]; no row for a reserved or custom opcode (30_encoding.md R118, R119). -/
def Op.ofCode (c : BitVec 8) : Option Op := Op.all.find? fun o => o.code == c

/-! ### Header fields (30_encoding.md R111) -/

/-- OPC, bits [31:24]. -/
def headerOpc (h : BitVec 32) : BitVec 8 := h.extractLsb' 24 8
/-- RSV, bits [23:18]. -/
def headerRsv (h : BitVec 32) : BitVec 6 := h.extractLsb' 18 6
/-- A2, bits [17:16]. -/
def headerA2 (h : BitVec 32) : BitVec 2 := h.extractLsb' 16 2
/-- IMM16, bits [15:0]. -/
def headerImm (h : BitVec 32) : Word := h.extractLsb' 0 16

/-- The header of an opcode, an A2 and an IMM16, with RSV = 0. -/
def mkHeader (opc : BitVec 8) (a2 : BitVec 2) (imm : Word) : BitVec 32 :=
  opc ++ (0 : BitVec 6) ++ a2 ++ imm

/-- The header's two halfwords on the port, the low one first. DESIGN CHOICE, unsafe: R112 says a
command is 2 + P halfwords and does not say which half of the header comes first (log 1). -/
def headerHalves (h : BitVec 32) : List Word := [h.extractLsb' 0 16, h.extractLsb' 16 16]

/-- The header of its two halfwords (log 1). -/
def joinHeader (lo hi : Word) : BitVec 32 := hi ++ lo

/-- The payload length P of a format (30_encoding.md R112). -/
def Fmt.payloadLen (f : Fmt) (imm : Word) : Nat :=
  match f with
  | .h | .a | .i | .ai => 0
  | .q => 4
  | .n => imm.toNat

/-- The payload length of a header: "for an unknown opcode, P = 0" (30_encoding.md R118). -/
def payloadLen (h : BitVec 32) : Nat :=
  match Op.ofCode (headerOpc h) with
  | none => 0
  | some o => o.fmt.payloadLen (headerImm h)

/-! ### Decoding -/

/-- Why a header is refused with ILLEGAL_COMMAND (30_encoding.md R118). -/
inductive Illegal where
  /-- "row is absent": a reserved or custom opcode (R119). -/
  | unknownOpcode
  /-- RSV is not 0. -/
  | reservedBits
  /-- A2 is not 0 in a format that has no A2 operand. -/
  | a2NotZero
  /-- IMM16 is not 0 in a format that has no IMM16 operand. -/
  | immNotZero
  /-- SC.BLOCK with A2[1] = 1. -/
  | flagBit
  /-- ISR.XFER_DONE sent by FG. -/
  | notFromForeground
  /-- A command of the other CONFIG. -/
  | wrongConfig
deriving DecidableEq, Repr

/-- What the decoder makes of the halfwords on the port. -/
inductive Decoded where
  /-- A command, and the halfwords after it. -/
  | instr (i : Instr) (rest : List Word)
  /-- A refused header; its payload is consumed (30_encoding.md R118). -/
  | illegal (why : Illegal) (rest : List Word)
  /-- The command is not wholly on the port yet (log 2). -/
  | incomplete
deriving DecidableEq, Repr

/-- A format Q payload: four words in slot order (30_encoding.md R112). -/
def fourOfList : List Word → Four Word
  | a :: b :: c :: d :: _ => ⟨a, b, c, d⟩
  | _ => ⟨0, 0, 0, 0⟩

/-- The field checks of 30_encoding.md R118, in its order, for a row that exists. -/
def headerFault (o : Op) (h : BitVec 32) : Option Illegal :=
  if headerRsv h ≠ 0 then some .reservedBits
  else if (o.fmt = .h ∨ o.fmt = .i ∨ o.fmt = .n ∨ o.fmt = .q) ∧ headerA2 h ≠ 0 then some .a2NotZero
  else if (o.fmt = .h ∨ o.fmt = .a ∨ o.fmt = .q) ∧ headerImm h ≠ 0 then some .immNotZero
  else if o = .scBlock ∧ (headerA2 h)[1] then some .flagBit
  else none

/-- The command of a row and its operands (30_encoding.md R113, R116). -/
def buildInstr (o : Op) (a2 : BitVec 2) (imm : Word) (payload : List Word) : Instr :=
  match o with
  | .smInit => .smInit a2
  | .smStart => .smStart
  | .smReady => .smReady
  | .smUnready => .smUnready
  | .smStatus => .smStatus
  | .smId => .smId
  | .smSend => .smSend imm
  | .smRecv => .smRecv (PlayerId.ofBits a2)
  | .smDiscover => .smDiscover
  | .smRole => .smRole
  | .rbAlloc => .rbAlloc imm
  | .rbFree => .rbFree
  | .rbPush => .rbPush imm
  | .rbPop => .rbPop
  | .rbReadBulk => .rbReadBulk imm
  | .rbWriteBulk => .rbWriteBulk payload
  | .rbLen => .rbLen
  | .tbAlloc => .tbAlloc imm
  | .tbFree => .tbFree
  | .tbPush => .tbPush (fourOfList payload)
  | .tbPop => .tbPop
  | .tbPeek => .tbPeek
  | .tbReadBulk => .tbReadBulk (fourOfList payload)
  | .tbLen => .tbLen
  | .scNew => .scNew a2 imm
  | .scQueueSend => .scQueueSend payload
  | .scTick => .scTick
  | .scReadBulk => .scReadBulk (fourOfList payload)
  | .scReadAll => .scReadAll (fourOfList payload)
  | .scSkipEmpty => .scSkipEmpty
  | .scId => .scId
  | .scBlock => .scBlock (a2[0])
  | .scLeave => .scLeave
  | .isrXferDone => .isrXferDone

/-- Decoding of the command at the head of a stream of halfwords, as far as the stream alone
decides it (30_encoding.md R112, R118 to R120). The two checks of R118 that need the port are in
`portDecode`. -/
def decode : List Word → Decoded
  | lo :: hi :: tail =>
    let h := joinHeader lo hi
    let p := payloadLen h
    if tail.length < p then .incomplete
    else
      match Op.ofCode (headerOpc h) with
      | none => .illegal .unknownOpcode (tail.drop p)
      | some o =>
        match headerFault o h with
        | some why => .illegal why (tail.drop p)
        | none => .instr (buildInstr o (headerA2 h) (headerImm h) (tail.take p)) (tail.drop p)
  | _ => .incomplete

/-- The row of a command. -/
def Instr.op : Instr → Op
  | .smInit _ => .smInit
  | .smStart => .smStart
  | .smReady => .smReady
  | .smUnready => .smUnready
  | .smStatus => .smStatus
  | .smId => .smId
  | .smSend _ => .smSend
  | .smRecv _ => .smRecv
  | .smDiscover => .smDiscover
  | .smRole => .smRole
  | .rbAlloc _ => .rbAlloc
  | .rbFree => .rbFree
  | .rbPush _ => .rbPush
  | .rbPop => .rbPop
  | .rbReadBulk _ => .rbReadBulk
  | .rbWriteBulk _ => .rbWriteBulk
  | .rbLen => .rbLen
  | .tbAlloc _ => .tbAlloc
  | .tbFree => .tbFree
  | .tbPush _ => .tbPush
  | .tbPop => .tbPop
  | .tbPeek => .tbPeek
  | .tbReadBulk _ => .tbReadBulk
  | .tbLen => .tbLen
  | .scNew _ _ => .scNew
  | .scQueueSend _ => .scQueueSend
  | .scTick => .scTick
  | .scReadBulk _ => .scReadBulk
  | .scReadAll _ => .scReadAll
  | .scSkipEmpty => .scSkipEmpty
  | .scId => .scId
  | .scBlock _ => .scBlock
  | .scLeave => .scLeave
  | .isrXferDone => .isrXferDone

/-- Decoding of a header from FG on a port of the given CONFIG: besides the stream's own checks,
ISR.XFER_DONE is refused and so is a command of the other CONFIG (30_encoding.md R118). -/
def portDecode (config : PortConfig) (stream : List Word) : Decoded :=
  match decode stream with
  | .instr i rest =>
    if i.op = .isrXferDone then .illegal .notFromForeground rest
    else if i.op.config ≠ config then .illegal .wrongConfig rest
    else .instr i rest
  | d => d

/-! ### Encoding -/

/-- The A2 field of a command (30_encoding.md R113, R116). -/
def Instr.a2 : Instr → BitVec 2
  | .smInit rate => rate
  | .smRecv slot => slot.toBits
  | .scNew rate _ => rate
  | .scBlock flag => if flag then 1 else 0
  | _ => 0

/-- The IMM16 field of a command (30_encoding.md R112, R113, R116). -/
def Instr.imm : Instr → Word
  | .smSend w => w
  | .rbAlloc cap => cap
  | .rbPush w => w
  | .rbReadBulk n => n
  | .rbWriteBulk ws => BitVec.ofNat 16 ws.length
  | .tbAlloc cap => cap
  | .scNew _ cap => cap
  | .scQueueSend ws => BitVec.ofNat 16 ws.length
  | _ => 0

/-- The payload words of a command (30_encoding.md R112). -/
def Instr.payload : Instr → List Word
  | .rbWriteBulk ws => ws
  | .scQueueSend ws => ws
  | .tbPush t => [t.l0, t.l1, t.l2, t.l3]
  | .tbReadBulk t => [t.l0, t.l1, t.l2, t.l3]
  | .scReadBulk t => [t.l0, t.l1, t.l2, t.l3]
  | .scReadAll t => [t.l0, t.l1, t.l2, t.l3]
  | _ => []

/-- The header word of a command (30_encoding.md R111). -/
def Instr.header (i : Instr) : BitVec 32 := mkHeader i.op.code i.a2 i.imm

/-- The halfwords FG sends for a command: the header, then the payload (30_encoding.md R110). -/
def encode (i : Instr) : List Word := headerHalves i.header ++ i.payload

/-! ### The host's word -/

/-- The halfwords of an opcode-table word: the header's two halves, then a payload of zeros as long
as the header asks for. -/
def tableStream (nbits w : Nat) : List Word :=
  let h : BitVec 32 := BitVec.ofNat 32 (w % 2 ^ nbits)
  headerHalves h ++ List.replicate (payloadLen h) 0

/-- The command the decoder reads from an opcode-table word. -/
def decodeTableWord (nbits w : Nat) : Option Instr :=
  match decode (tableStream nbits w) with
  | .instr i _ => some i
  | _ => none

/-- The pseudo-commands' expansions (30_encoding.md R122). -/
def Pseudo.expand : Pseudo → List Instr
  | .readEven n => [.scReadBulk ⟨n, n, n, n⟩]
  | .readAllEven n => [.scReadAll ⟨n, n, n, n⟩]
  | .queue1 v => [.scQueueSend [v]]
  | .write1 v => [.rbWriteBulk [v]]
  | .drop => [.tbPop]
  | .cycleReady => [.smUnready, .smReady]

/-- The mnemonic of a row, as spec/opcode_table.json spells it (30_encoding.md R117). -/
def Op.mnemonic : Op → String
  | .smInit => "SM.INIT"
  | .smStart => "SM.START"
  | .smReady => "SM.READY"
  | .smUnready => "SM.UNREADY"
  | .smStatus => "SM.STATUS"
  | .smId => "SM.ID"
  | .smSend => "SM.SEND"
  | .smRecv => "SM.RECV"
  | .smDiscover => "SM.DISCOVER"
  | .smRole => "SM.ROLE"
  | .rbAlloc => "RB.ALLOC"
  | .rbFree => "RB.FREE"
  | .rbPush => "RB.PUSH"
  | .rbPop => "RB.POP"
  | .rbReadBulk => "RB.READ_BULK"
  | .rbWriteBulk => "RB.WRITE_BULK"
  | .rbLen => "RB.LEN"
  | .tbAlloc => "TB.ALLOC"
  | .tbFree => "TB.FREE"
  | .tbPush => "TB.PUSH"
  | .tbPop => "TB.POP"
  | .tbPeek => "TB.PEEK"
  | .tbReadBulk => "TB.READ_BULK"
  | .tbLen => "TB.LEN"
  | .scNew => "SC.NEW"
  | .scQueueSend => "SC.QUEUE_SEND"
  | .scTick => "SC.TICK"
  | .scReadBulk => "SC.READ_BULK"
  | .scReadAll => "SC.READ_ALL"
  | .scSkipEmpty => "SC.SKIP_EMPTY"
  | .scId => "SC.ID"
  | .scBlock => "SC.BLOCK"
  | .scLeave => "SC.LEAVE"
  | .isrXferDone => "ISR.XFER_DONE"

end Sys2Proof
end

