-- ==== Sys2Proof/Machine/State.lean ====
section
/-! DEFINITION. The state of the machine as plain data: everything 10_state.md R30 names, the
sequencers' positions, the two ports, the parameters and the environment's next draws; the reasons a
step can stop; and the state after reset (70_reset_and_hazards.md R341). -/

namespace Sys2Proof.Machine

/-! ### Responses -/

/-- The status codes of 60_exceptions.md R300. -/
inductive Status where
  | ok
  | alreadyInProgress
  | failedReadyCheck
  | failedOkayCheck
  | alreadyInitialized
  | full
  | empty
  | mismatchedLengths
  | notActive
  | notInitialized
  | notOwner
  | invalidCapacity
  | illegalCommand
  | noBuffer
deriving DecidableEq, Repr, Inhabited

/-- A response: STATUS, VALUE and the result words (30_encoding.md R114, R115). -/
structure Response where
  status : Status
  value  : Word
  words  : List Word
deriving DecidableEq, Repr, Inhabited

/-! ### Buffers -/

/-- A backing store, RBM or TBM: the words that have been written, by word index, in one canonical
form (20_memory.md R80). A word that is not listed has never been written and has no value (log 10);
an entry is a whole 16-bit word, the smallest unit the spec addresses (R82, log 11). -/
abbrev Memory := List (Nat × Word)

/-- The presence bit, capacity and cursor pair of RB (10_state.md R42) or of TB (R44). -/
structure Queue where
  present : Bool
  cap     : Nat
  r       : Nat
  w       : Nat
deriving DecidableEq, Repr, Inhabited

/-- The queue of an absent buffer (41_ring_buffer.md R185, 42_transfer_buffer.md R215). -/
def Queue.absent : Queue := ⟨false, 0, 0, 0⟩

/-! ### Link registers -/

/-- The stored fields of SIOCNT (10_state.md R34). SI, SD, ID and BUSY are not stored: they are
computed when the register is read. -/
structure Siocnt where
  /-- [1:0] -/
  baud     : BaudRate
  /-- [6] -/
  err      : Bool
  /-- [11:8], unused, preserved on write (log 12) -/
  unusedLo : BitVec 4
  /-- [13:12] -/
  mode     : BitVec 2
  /-- [14] -/
  irq      : Bool
  /-- [15], unused, preserved on write (log 12) -/
  unusedHi : Bool
deriving DecidableEq, Repr, Inhabited

/-! ### Session and sequencers -/

/-- The session states (10_state.md R46). -/
inductive ScState where
  | uninit | iddisc | active | left
deriving DecidableEq, Repr, Inhabited

/-- What SC.NEW remembers while it runs: `prior`, its rate and its capacity (43_session.md R241). -/
structure NewLocals where
  prior : ScState
  rate  : BaudRate
  cap   : Word
deriving DecidableEq, Repr, Inhabited

/-- Whom `sm_init_core` and `sm_discover_core` return to: the SM command itself, or SC.NEW
(43_session.md R241). -/
inductive SmCaller where
  | command
  | new (l : NewLocals)
deriving DecidableEq, Repr, Inhabited

/-- Whom `sm_ready_core` returns to: SM.READY, the discovery handshake, or SC.QUEUE_SEND with its
count k (40_transfer_state_machine.md R152, R159; 43_session.md R242). -/
inductive ReadyCaller where
  | command
  | discover (c : SmCaller)
  | queueSend (k : Nat)
deriving DecidableEq, Repr, Inhabited

/-- The locals of SC.READ_ALL: Lc, filled and the four outputs (43_session.md R245). -/
structure ReadAllLocals where
  len    : Nat
  filled : Nat
  out    : Four (List Word)
deriving DecidableEq, Repr, Inhabited

/-- Whom `sm_start_core` returns to: SM.START, SC.TICK, the discovery loop, or the re-tick of
SC.READ_ALL (40_transfer_state_machine.md R151, R159; 43_session.md R243, R245). -/
inductive StartCaller where
  | command
  | tick
  | discover (c : SmCaller)
  | readAll (l : ReadAllLocals)
deriving DecidableEq, Repr, Inhabited

/-- FGSEQ (10_state.md R32): Idle, or the next atomic step of the command in progress with the
command's locals. Every link register access is a step of its own
(40_transfer_state_machine.md, introduction; log 7). -/
inductive FgSeq where
  | idle
  -- sm_init_core, after its RCNT write (R150)
  | initReadSio (c : SmCaller) (rate : BaudRate)
  | initWriteSio (c : SmCaller) (rate : BaudRate) (v : Word)
  | initReadErr (c : SmCaller) (rate : BaudRate)
  | initReadRole (c : SmCaller) (rate : BaudRate)
  -- sm_ready_core (R152)
  | readyWriteRcnt (c : ReadyCaller)
  | readyReadSio (c : ReadyCaller)
  | readyWriteSio (c : ReadyCaller) (v : Word)
  -- sm_start_core (R151)
  | startReadBusy (c : StartCaller)
  | startReadSio (c : StartCaller)
  | startWriteSio (c : StartCaller) (v : Word)
  | startReadReady (c : StartCaller)
  | startReadErr (c : StartCaller)
  -- sm_discover_core (R159)
  | discWriteUnready (c : SmCaller)
  | discWriteSend (c : SmCaller)
  | discClear (c : SmCaller)
  | discReadId (c : SmCaller)
  | discCheck (c : SmCaller) (id : BitVec 2)
  -- SM.STATUS, after its SIOCNT read (R155)
  | statusReadRcnt (v : Word)
  -- SC.NEW, after discovery (R241)
  | newInstall (l : NewLocals) (id : BitVec 2)
  | newReadSio (l : NewLocals) (id : BitVec 2)
  | newWriteSio (l : NewLocals) (id : BitVec 2) (v : Word)
  -- SC.READ_ALL's loop (R245)
  | readAllRead (l : ReadAllLocals)
  -- SC.SKIP_EMPTY's loop (R246)
  | skipPeek (k : Nat)
  | skipPop (k : Nat)
  -- SC.LEAVE, after its SIOCNT read (R249)
  | leaveWriteSio (v : Word)
  | leaveTeardown
deriving DecidableEq, Repr, Inhabited

/-- How far the interrupt handler has come (44_interrupt_handler.md R280). `isr_active` is 1 exactly
while this is not `idle` (10_state.md R48, log 26). -/
inductive IsrSeq where
  /-- No handler runs. -/
  | idle
  /-- The interrupt has been taken; ISR.XFER_DONE is issued next. -/
  | entered
  | recv1 (t0 : Word)
  | recv2 (t0 t1 : Word)
  | recv3 (t0 t1 t2 : Word)
  | push (t : Four Word)
  | pop
  | send (w : Option Word)
  | unready
deriving DecidableEq, Repr, Inhabited

/-! ### The state -/

/-- The machine's state. Fields in the order of 10_state.md R30, then the model's own. -/
structure State where
  -- LR
  rcnt         : Word
  sio          : Siocnt
  send         : Word
  recv         : Four Word
  -- LINKH
  xferActive   : Bool
  sendLatch    : Word
  idValid      : Bool
  -- IRQ (isr_active is read off `isr`)
  irqPending   : Bool
  seenComplete : Bool
  -- SM
  smInited     : Bool
  smRate       : BaudRate
  smRole       : Role
  -- RB and RBM
  rb           : Queue
  rbm          : Memory
  -- TB and TBM
  tb           : Queue
  tbm          : Memory
  -- SC
  scState      : ScState
  scId         : PlayerId
  scRate       : BaudRate
  blockFlag    : Bool
  isrInstalled : Bool
  -- FGSEQ
  fg           : FgSeq
  -- the model's own; the port holds what FG has still to send (log 2), and no step adds to it (log 34)
  isr          : IsrSeq
  port         : List Word
  resp         : Option Response
  cfg          : Params
  env          : Env
  tick         : Nat
deriving DecidableEq, Repr, Inhabited

/-! ### The reasons a step can stop -/

/-- Faults. The BTC has none (60_exceptions.md R302): each of these is a state the rules call
unreachable, where R302 asks a model to record a fault. All are safe: the model stops. -/
inductive Fault where
  /-- Raised by an internal call of a buffer operation on an absent buffer, which 43_session.md R251
  and 60_exceptions.md R312 exclude. Safe. -/
  | bufferAbsent
  /-- Raised by a read of a backing-store word that nothing has written, which 41_ring_buffer.md R182
  and 42_transfer_buffer.md R212 exclude. Safe. -/
  | wordNotWritten
  /-- Raised by an access at an index outside the backing store, which 20_memory.md R80 excludes.
  Safe. -/
  | wordOutOfStore
  /-- Raised by SC.SKIP_EMPTY's discard when the tuple it peeked is gone, which 20_memory.md R105
  excludes. Safe. -/
  | peekedTupleGone
  /-- Raised by SC.NEW where its own checks exclude it: sc_state other than UNINIT and LEFT once the
  checks have passed, or an allocation that is refused after them (43_session.md R241, R251). Safe. -/
  | sessionStateBroken
deriving DecidableEq, Repr, Inhabited

/-- Refusals. No command ends in one; the `lr…` ones are answers of the byte-bus view of the link
registers, which no command uses. All are safe: nothing is done. -/
inductive Refusal where
  /-- Raised by `exec` for an instruction that has no meaning yet. Safe. -/
  | notModelled (mnemonic : String)
  /-- Raised by a bus access that is not 16 bits wide (20_memory.md R83). Safe. -/
  | lrWidth
  /-- Raised by a bus access at an odd offset (20_memory.md R83). Safe. -/
  | lrMisaligned
  /-- Raised by a bus access at an offset that holds no link register (20_memory.md R84). Safe. -/
  | lrUnmapped
  /-- Raised by a bus read of SEND, which is write-only (10_state.md R37). Safe. -/
  | lrWriteOnly
  /-- Raised by a bus write of RECV0 to RECV3, which are read-only (10_state.md R37). Safe. -/
  | lrReadOnly
deriving DecidableEq, Repr, Inhabited

/-- The outcome of an atomic step. -/
abbrev Outcome := Host.Outcome State Fault Refusal

/-! ### Reset -/

/-- SIOCNT after reset: BAUD 0, ERR 0, MODE 0b00, IRQ 0 (70_reset_and_hazards.md R341); the unused
bits are draws there, and 0 here. DESIGN CHOICE, unsafe (log 8). -/
def Siocnt.reset : Siocnt := ⟨0, false, 0, 0, false, false⟩

/-- The environment's draws for the first step after reset: FG moves, everything else 0.
DESIGN CHOICE, unsafe (log 5). -/
def Env.reset : Env := ⟨.fg, false, 0, false, false, false, ⟨0, 0, 0, 0⟩⟩

/-- The state after reset, for given parameters and a given first draw
(70_reset_and_hazards.md R340, R341). RCNT, SEND, RECV0 to RECV3 and send_latch are draws there and 0
here (DESIGN CHOICE, unsafe, log 8); sm_rate, sm_role, sc_id and sc_rate are unspecified there and
their first value here (DESIGN CHOICE, unsafe, log 9). -/
def State.resetWith (cfg : Params) (env : Env) : State where
  rcnt         := 0
  sio          := Siocnt.reset
  send         := 0
  recv         := ⟨0, 0, 0, 0⟩
  xferActive   := false
  sendLatch    := 0
  idValid      := false
  irqPending   := false
  seenComplete := false
  smInited     := false
  smRate       := 0
  smRole       := .parent
  rb           := Queue.absent
  rbm          := []
  tb           := Queue.absent
  tbm          := []
  scState      := .uninit
  scId         := .p0
  scRate       := 0
  blockFlag    := false
  isrInstalled := false
  fg           := .idle
  isr          := .idle
  port         := []
  resp         := none
  cfg          := cfg
  env          := env
  tick         := 0

/-- The machine right after reset (70_reset_and_hazards.md R341), with the parameters and the first
draw of log 4 and log 5. -/
def State.reset : State := State.resetWith Params.default Env.reset

end Sys2Proof.Machine
end

