-- ==== Sys2Proof/Machine/Operands.lean ====
section
/-! DEFINITION. Operands and results as values: the lanes of a tuple, capacities, counts, and the
16-bit VALUE forms of a response (30_encoding.md R114 to R116, 00_scope.md R11). -/

namespace Sys2Proof

/-- The number of a slot, 0..3 (00_scope.md R20). -/
def PlayerId.toNat : PlayerId → Nat
  | .p0 => 0
  | .p1 => 1
  | .p2 => 2
  | .p3 => 3

/-- Lane p of a tuple (00_scope.md R22). -/
def Four.get {α : Type} (t : Four α) : PlayerId → α
  | .p0 => t.l0
  | .p1 => t.l1
  | .p2 => t.l2
  | .p3 => t.l3

/-- A tuple from its lanes. -/
def Four.ofFn {α : Type} (f : PlayerId → α) : Four α := ⟨f .p0, f .p1, f .p2, f .p3⟩

/-- A tuple as a list in slot order, the order of payload and result words (30_encoding.md R112,
R115). -/
def Four.toList {α : Type} (t : Four α) : List α := [t.l0, t.l1, t.l2, t.l3]

/-- The same lane by lane. -/
def Four.map {α β : Type} (f : α → β) (t : Four α) : Four β := ⟨f t.l0, f t.l1, f t.l2, f t.l3⟩

/-- Two tuples lane by lane. -/
def Four.zip {α β γ : Type} (f : α → β → γ) (t : Four α) (u : Four β) : Four γ :=
  ⟨f t.l0 u.l0, f t.l1 u.l1, f t.l2 u.l2, f t.l3 u.l3⟩

/-- The least of four counts (42_transfer_buffer.md R219). -/
def Four.least (t : Four Nat) : Nat := min (min t.l0 t.l1) (min t.l2 t.l3)

/-- ROLE_HW: "POS_HW is 0 if and only if ROLE_HW = PARENT" (00_scope.md R10, log 16). -/
def Params.roleHw (c : Params) : Role :=
  match c.posHw with
  | .p0 => .parent
  | .p1 | .p2 | .p3 => .child

end Sys2Proof

namespace Sys2Proof.Machine

/-- IMM16 as a capacity: 1..CAP_MAX (00_scope.md R9, 30_encoding.md R116). -/
abbrev capacityLegal (cfg : Params) (cap : Word) : Prop :=
  1 ≤ cap.toNat ∧ cap.toNat ≤ cfg.capMax

/-- A count as a 16-bit result, modulo 2^16 (00_scope.md R11). -/
def countValue (k : Nat) : Word := BitVec.ofNat 16 k

/-- The role as a result: 0 = parent, 1 = child (40_transfer_state_machine.md R150, R154). -/
def roleValue : Role → Word
  | .parent => 0
  | .child => 1

/-- An ID as a result, zero-extended (40_transfer_state_machine.md R156, R159). -/
def idValue (id : BitVec 2) : Word := id.setWidth 16

/-- Format Q's payload as four maximum counts (30_encoding.md R116). -/
def countsOf (l : Four Word) : Four Nat := l.map BitVec.toNat

/-- The result words of a four-slot bulk read: four counts, then the data slot by slot
(30_encoding.md R115). -/
def bulkWords (counts : Four Nat) (out : Four (List Word)) : List Word :=
  (counts.map countValue).toList ++ out.l0 ++ out.l1 ++ out.l2 ++ out.l3

/-- The number of a status code (60_exceptions.md R300). -/
def Status.code : Status → BitVec 8
  | .ok => 0x00
  | .alreadyInProgress => 0x01
  | .failedReadyCheck => 0x02
  | .failedOkayCheck => 0x03
  | .alreadyInitialized => 0x04
  | .full => 0x05
  | .empty => 0x06
  | .mismatchedLengths => 0x07
  | .notActive => 0x08
  | .notInitialized => 0x09
  | .notOwner => 0x0A
  | .invalidCapacity => 0x0B
  | .illegalCommand => 0x0C
  | .noBuffer => 0x0D

/-- The 32-bit response status word: VALUE [31:16], 0 [15:8], STATUS [7:0] (30_encoding.md R114). -/
def Response.statusWord (r : Response) : BitVec 32 := r.value ++ (0 : BitVec 8) ++ r.status.code

/-- VALUE of SC.TICK: 0 OK, 1 ALREADY_IN_PROGRESS, 2 FAILED_READY_CHECK (43_session.md R243). -/
def tickValue (st : Status) : Word := st.code.setWidth 16

/-- Some peer's word is not SENTINEL: a slot other than `own` holds data (43_session.md R246). -/
def hasPeerData (own : PlayerId) (t : Four Word) : Bool :=
  (decide (own ≠ .p0) && t.l0 != sentinel) || (decide (own ≠ .p1) && t.l1 != sentinel) ||
  (decide (own ≠ .p2) && t.l2 != sentinel) || (decide (own ≠ .p3) && t.l3 != sentinel)

/-- Every word is SENTINEL (44_interrupt_handler.md R280). -/
abbrev allSentinel (t : Four Word) : Prop :=
  t.l0 = sentinel ∧ t.l1 = sentinel ∧ t.l2 = sentinel ∧ t.l3 = sentinel

end Sys2Proof.Machine
end

