-- ==== Sys2Proof/Machine/Flags.lean ====
section
/-! DEFINITION. The mode and the flags: what each bit of SIOCNT reads as (10_state.md R34, R49 to
R51; 20_memory.md R93 to R96), and the packed VALUE of SM.STATUS (40_transfer_state_machine.md R155). -/

namespace Sys2Proof.Machine

/-- The mode is MULTIPLAYER: RCNT[15] = 0 and SIOCNT.MODE = 0b10 (10_state.md R50). -/
abbrev State.multi (s : State) : Prop := s.rcnt[15] = false ∧ s.sio.mode = 2

/-- local_ready "holds exactly when the mode is MULTIPLAYER" (10_state.md R49). -/
def State.localReady (s : State) : Bool := decide s.multi

/-- SI: ROLE_HW while the mode is MULTIPLAYER, else a draw (10_state.md R34, 20_memory.md R94). -/
def State.flagSi (s : State) : Bool :=
  if s.multi then decide (s.cfg.roleHw = .child) else s.env.garbage[2]

/-- The all-ready flag SD as the start write, the ready check and reset see it: local_ready AND
peers_ready (20_memory.md R93; 40_transfer_state_machine.md R153; 70_reset_and_hazards.md R341).
DEDUCED, unsafe: 10_state.md R34 lists SD among the draws in OTHER mode (log 13). -/
def State.flagSd (s : State) : Bool := s.localReady && s.env.peersReady

/-- SD in a read of the whole of SIOCNT: the flag while the mode is MULTIPLAYER, else a draw
(10_state.md R34; 40_transfer_state_machine.md R155; log 13). -/
def State.readSd (s : State) : Bool := if s.multi then s.flagSd else s.env.garbage[3]

/-- ID: POS_HW while id_valid = 1 in multiplayer mode, else a fresh draw (10_state.md R34,
20_memory.md R95). -/
def State.flagId (s : State) : BitVec 2 :=
  if s.multi ∧ s.idValid = true then s.cfg.posHw.toBits else s.env.garbage.extractLsb' 4 2

/-- ERR: the drawn flag in multiplayer mode, else a draw (10_state.md R34, 20_memory.md R96). -/
def State.flagErr (s : State) : Bool :=
  if s.multi then s.sio.err else s.env.garbage[6]

/-- BUSY: xfer_active in multiplayer mode, else 0 (10_state.md R34, R38). -/
def State.flagBusy (s : State) : Bool := s.localReady && s.xferActive

/-- SIOCNT as one 16-bit read returns it (10_state.md R34). -/
def State.siocntRead (s : State) : Word :=
  BitVec.ofBool s.sio.unusedHi ++ BitVec.ofBool s.sio.irq ++ s.sio.mode ++ s.sio.unusedLo ++
  BitVec.ofBool s.flagBusy ++ BitVec.ofBool s.flagErr ++ s.flagId ++ BitVec.ofBool s.readSd ++
  BitVec.ofBool s.flagSi ++ s.sio.baud

/-- VALUE of SM.STATUS from one SIOCNT read and one RCNT read: IRQ, BAUD, multiplayer, BUSY, ERR, ID,
SD, SI from bit 9 down (40_transfer_state_machine.md R155). -/
def statusValue (v rc : Word) : Word :=
  let multi : Bool := !rc[15] && v.extractLsb' 12 2 == (2 : BitVec 2)
  (BitVec.ofBool v[14] ++ v.extractLsb' 0 2 ++ BitVec.ofBool multi ++
    BitVec.ofBool v[7] ++ BitVec.ofBool v[6] ++ v.extractLsb' 4 2 ++
    BitVec.ofBool v[3] ++ BitVec.ofBool v[2]).setWidth 16

/-- The transfer speed of a baud-rate code, bit/s. PRESUMED, safe: no rule depends on it
(10_state.md R35, 70_reset_and_hazards.md R360; log 21). -/
def baudBitsPerSecond (rate : BaudRate) : Nat :=
  if rate = 0 then 9600 else if rate = 1 then 38400 else if rate = 2 then 57600 else 115200

end Sys2Proof.Machine
end

