-- ==== Sys2Proof/Machine/Link.lean ====
section
/-! DEFINITION. The link register file and the LINK agent: mode changes, start requests, transfer
begin and completion, and the writes of RCNT, SIOCNT and SEND with their side effects
(20_memory.md R85 to R98). -/

namespace Sys2Proof.Machine

/-! ### Transfers -/

/-- Transfer begin (20_memory.md R91): BUSY, the sampled SEND word, and SENTINEL in every RECV. -/
def State.beginTransfer (s : State) : State :=
  { s with
    xferActive := true
    sendLatch  := s.send
    recv       := ⟨sentinel, sentinel, sentinel, sentinel⟩ }

/-- What slot p receives when a transfer completes: the unit's own latched word, a present peer's
drawn word, SENTINEL for an absent peer (20_memory.md R92, R98). -/
def State.completionWord (s : State) (p : PlayerId) : Word :=
  if p = s.cfg.posHw then s.sendLatch
  else if s.cfg.present.get p then s.env.words.get p
  else sentinel

/-- Transfer completion (20_memory.md R92), one atomic step. -/
def State.completeTransfer (s : State) : State :=
  { s with
    recv         := Four.ofFn s.completionWord
    xferActive   := false
    idValid      := true
    seenComplete := true
    sio          := { s.sio with err := s.env.err }
    irqPending   := s.irqPending || s.sio.irq }

/-- LINK's step "the remote parent's start": enabled on a child in multiplayer mode with no transfer
in progress (20_memory.md R91); otherwise nothing happens (log 6). -/
def State.linkBegin (s : State) : State :=
  if s.cfg.roleHw = .child ∧ s.multi ∧ s.xferActive = false then s.beginTransfer else s

/-- LINK's completion step: enabled while a transfer is in progress (20_memory.md R92); otherwise
nothing happens (log 6). -/
def State.linkComplete (s : State) : State :=
  if s.xferActive = true then s.completeTransfer else s

/-- The start request of a write of 1 to SIOCNT.START (20_memory.md R90): with the mode MULTIPLAYER,
the role PARENT and no transfer in progress, the transfer begins if SD reads 1, and by LINK's draw if
SD reads 0; otherwise the write has no effect. -/
def State.requestStart (s : State) : State :=
  if s.multi ∧ s.cfg.roleHw = .parent ∧ s.xferActive = false ∧
      (s.flagSd = true ∨ s.env.race = true) then
    s.beginTransfer
  else s

/-! ### Mode changes (20_memory.md R88) -/

/-- The mode becomes MULTIPLAYER: LINK draws ERR, and id_valid is 0. DEDUCED, unsafe: R88 says
id_valid "keeps the value 0"; a completion outside multiplayer mode (R92) may have set it (log 14). -/
def State.enterMulti (s : State) : State :=
  { s with sio := { s.sio with err := s.env.err }, idValid := false }

/-- The mode leaves MULTIPLAYER: id_valid is cleared; a transfer in progress still completes later, or
is abandoned with drawn RECV contents, by LINK's draw. -/
def State.leaveMulti (s : State) : State :=
  if s.xferActive = true ∧ s.env.abandon = true then
    { s with idValid := false, xferActive := false, recv := s.env.words }
  else { s with idValid := false }

/-- The side effects of a mode change, given the state before the write. What a write of ALT_RCNT does
to id_valid where the mode is OTHER already is settled in `State.writeRcnt` (log 32). -/
def State.settleMode (before s : State) : State :=
  if before.multi ∧ ¬ s.multi then s.leaveMulti
  else if ¬ before.multi ∧ s.multi then s.enterMulti
  else s

/-! ### Register writes -/

/-- A write of RCNT (20_memory.md R85, R88): the mode's side effects, and id_valid <- 0 where the value
written is an alternate mode's (bit 15 set). DEDUCED, unsafe: 40_transfer_state_machine.md R153 clears
id_valid at every such write, 10_state.md R38 only when the mode leaves MULTIPLAYER (log 32). -/
def State.writeRcnt (v : Word) (s : State) : State :=
  let t := s.settleMode { s with rcnt := v }
  if v[15] then { t with idValid := false } else t

/-- The stored fields of a written SIOCNT value; the read-only fields are unaffected by any write
(10_state.md R34, 20_memory.md R87). -/
def Siocnt.store (old : Siocnt) (v : Word) : Siocnt :=
  { baud     := v.extractLsb' 0 2
    err      := old.err
    unusedLo := v.extractLsb' 8 4
    mode     := v.extractLsb' 12 2
    irq      := v[14]
    unusedHi := v[15] }

/-- A write of SIOCNT: the stored fields, the mode's side effects, and a start request where
START = 1 (20_memory.md R85, R88, R90; log 20). -/
def State.writeSiocnt (v : Word) (s : State) : State :=
  let t := s.settleMode { s with sio := s.sio.store v }
  if v[7] then t.requestStart else t

/-- A write of SEND changes only SEND (20_memory.md R85). -/
def State.writeSend (v : Word) (s : State) : State := { s with send := v }

/-! ### The read-modify-writes of SIOCNT -/

/-- `v with MODE <- 0b10, BAUD <- rate, START <- 0` (40_transfer_state_machine.md R150, R152). -/
def withModeBaud (rate : BaudRate) (v : Word) : Word :=
  v.extractLsb' 14 2 ++ (2 : BitVec 2) ++ v.extractLsb' 8 4 ++ (0 : BitVec 1) ++ v.extractLsb' 2 5 ++ rate

/-- `v with START <- 1` (40_transfer_state_machine.md R151). -/
def withStart (v : Word) : Word := v ||| 0x0080

/-- `v with IRQ <- on, START <- 0` (43_session.md R241, R249). -/
def withIrq (on : Bool) (v : Word) : Word :=
  v.extractLsb' 15 1 ++ BitVec.ofBool on ++ v.extractLsb' 8 6 ++ (0 : BitVec 1) ++ v.extractLsb' 0 7

end Sys2Proof.Machine
end

