-- ==== Sys2Proof/Machine/Ops.lean ====
section
/-! DEFINITION. The shared operations: ending a command with a response, the two backing stores, the
ring buffer and fan-out buffer cores (41_ring_buffer.md, 42_transfer_buffer.md), taking the interrupt
and returning from it (60_exceptions.md R310, R311). -/

namespace Sys2Proof.Machine

/-! ### Ending a command -/

/-- `raise STATUS(info)` and `return OK(fields)`: the response stands on the port and FGSEQ is Idle
(00_scope.md R20, 10_state.md R32). -/
def State.respond (st : Status) (value : Word) (words : List Word) (s : State) : State :=
  { s with resp := some ⟨st, value, words⟩, fg := .idle }

/-- A response with no result. -/
def State.answer (st : Status) (s : State) : State := s.respond st 0 []

/-- FGSEQ stands at the given step. -/
def State.goto (step : FgSeq) (s : State) : State := { s with fg := step }

/-- A command has been taken off the port: the halfwords after it stay, and no response stands until
the command gives one (30_encoding.md R110, log 3). -/
def State.take (rest : List Word) (s : State) : State := { s with port := rest, resp := none }

/-- FG decides on more halfwords to send, behind those it has still to send (30_encoding.md R110,
log 34). -/
def State.fgSends (words : List Word) (s : State) : State := { s with port := s.port ++ words }

/-- The outcome of an atomic step that can meet an unreachable state. -/
def outcome : Except Fault State → Outcome
  | .ok s => .next s
  | .error f => .fault f

/-! ### Backing stores (20_memory.md R80, 00_scope.md R20) -/

/-- The canonical form: word indices strictly rise. No entry can equal what an unlisted word reads
as, since that is no value at all (log 10). -/
abbrev Memory.wf (m : Memory) : Prop := (m.map Prod.fst).Pairwise (· < ·)

/-- The word at an index, none where nothing has been written. -/
def Memory.lookup : Memory → Nat → Option Word
  | [], _ => none
  | (b, v) :: m, a => if a = b then some v else Memory.lookup m a

/-- The store with the word at an index replaced, in canonical form. -/
def Memory.insert : Memory → Nat → Word → Memory
  | [], a, v => [(a, v)]
  | (b, u) :: m, a, v =>
    if a < b then (a, v) :: (b, u) :: m
    else if a = b then (a, v) :: m
    else (b, u) :: Memory.insert m a v

/-- MemRead(S:addr, 1), in a store of `size` words (00_scope.md R20). -/
def Memory.read (size : Nat) (m : Memory) (a : Nat) : Except Fault Word :=
  if a < size then
    match m.lookup a with
    | some v => .ok v
    | none => .error .wordNotWritten
  else .error .wordOutOfStore

/-- MemWrite(S:addr, 1, v), in a store of `size` words (00_scope.md R20). -/
def Memory.write (size : Nat) (m : Memory) (a : Nat) (v : Word) : Except Fault Memory :=
  if a < size then .ok (m.insert a v) else .error .wordOutOfStore

/-- The words at several indices, in order. -/
def Memory.readAll (size : Nat) (m : Memory) : List Nat → Except Fault (List Word)
  | [] => .ok []
  | a :: as =>
    match m.read size a, Memory.readAll size m as with
    | .ok v, .ok vs => .ok (v :: vs)
    | .error f, _ => .error f
    | .ok _, .error f => .error f

/-- The size of RBM (20_memory.md R80). -/
def State.rbmSize (s : State) : Nat := s.cfg.capMax

/-- The size of TBM (20_memory.md R80). -/
def State.tbmSize (s : State) : Nat := 4 * s.cfg.capMax

/-! ### Cursor arithmetic (41_ring_buffer.md R180, 42_transfer_buffer.md R210) -/

/-- occ = (w - r) mod 2C. -/
def Queue.occ (q : Queue) : Nat := (q.w + 2 * q.cap - q.r) % (2 * q.cap)

/-- empty: w = r. -/
abbrev Queue.isEmpty (q : Queue) : Prop := q.w = q.r

/-- full: occ = C. -/
abbrev Queue.isFull (q : Queue) : Prop := q.occ = q.cap

/-- adv(x, k) = (x + k) mod 2C. -/
def Queue.adv (q : Queue) (x k : Nat) : Nat := (x + k) % (2 * q.cap)

/-- slot(x) = x mod C. -/
def Queue.slot (q : Queue) (x : Nat) : Nat := x % q.cap

/-- addr(p, x) = p*C + (x mod C). -/
def Queue.laneAddr (q : Queue) (p : PlayerId) (x : Nat) : Nat := p.toNat * q.cap + q.slot x

/-- A fresh buffer of capacity `cap` (41_ring_buffer.md R184, 42_transfer_buffer.md R214). -/
def Queue.fresh (cap : Nat) : Queue := ⟨true, cap, 0, 0⟩

/-- The queue with its write cursor advanced by 1. -/
def Queue.pushed (q : Queue) : Queue := { q with w := q.adv q.w 1 }

/-- The queue with its read cursor advanced by k. -/
def Queue.popped (q : Queue) (k : Nat) : Queue := { q with r := q.adv q.r k }

/-- The backing indices of the first k queued words of RB (41_ring_buffer.md R188). -/
def Queue.headSlots (q : Queue) (k : Nat) : List Nat := (List.range k).map fun j => q.slot (q.r + j)

/-- The backing indices of the first k queued words of lane p (42_transfer_buffer.md R219). -/
def Queue.headLane (q : Queue) (p : PlayerId) (k : Nat) : List Nat :=
  (List.range k).map fun j => q.laneAddr p (q.r + j)

/-! ### Ring buffer cores; each is one critical section (20_memory.md R101) -/

/-- rb_alloc_core (41_ring_buffer.md R184): the status it raises, or the state. -/
def rbAllocCore (cap : Word) (s : State) : Except Status State :=
  if s.rb.present = true then .error .alreadyInitialized
  else if ¬ capacityLegal s.cfg cap then .error .invalidCapacity
  else .ok { s with rb := Queue.fresh cap.toNat }

/-- rb_free_core (41_ring_buffer.md R185). -/
def rbFreeCore (s : State) : State := { s with rb := Queue.absent }

/-- rb_push_core (41_ring_buffer.md R186): none stands for FULL. -/
def rbPushCore (v : Word) (s : State) : Except Fault (Option State) :=
  if s.rb.present = false then .error .bufferAbsent
  else if s.rb.isFull then .ok none
  else
    match Memory.write s.rbmSize s.rbm (s.rb.slot s.rb.w) v with
    | .ok m => .ok (some { s with rbm := m, rb := s.rb.pushed })
    | .error f => .error f

/-- rb_pop_core (41_ring_buffer.md R187): none stands for an empty buffer. -/
def rbPopCore (s : State) : Except Fault (Option (Word × State)) :=
  if s.rb.present = false then .error .bufferAbsent
  else if s.rb.isEmpty then .ok none
  else
    match Memory.read s.rbmSize s.rbm (s.rb.slot s.rb.r) with
    | .ok v => .ok (some (v, { s with rb := s.rb.popped 1 }))
    | .error f => .error f

/-- rb_read_bulk_core (41_ring_buffer.md R188): the words copied, and the state. -/
def rbReadBulkCore (n : Nat) (s : State) : Except Fault (List Word × State) :=
  if s.rb.present = false then .error .bufferAbsent
  else
    let k := min s.rb.occ n
    match Memory.readAll s.rbmSize s.rbm (s.rb.headSlots k) with
    | .ok out => .ok (out, { s with rb := s.rb.popped k })
    | .error f => .error f

/-- rb_write_bulk_core (41_ring_buffer.md R189): pushes until the buffer is full or the input is
exhausted; the count written, and the state. -/
def rbWriteBulkCore : List Word → State → Except Fault (Nat × State)
  | [], s => if s.rb.present = false then .error .bufferAbsent else .ok (0, s)
  | v :: vs, s =>
    match rbPushCore v s with
    | .error f => .error f
    | .ok none => .ok (0, s)
    | .ok (some t) =>
      match rbWriteBulkCore vs t with
      | .ok (k, u) => .ok (k + 1, u)
      | .error f => .error f

/-! ### Fan-out buffer cores; each is one critical section (20_memory.md R101) -/

/-- tb_alloc_core (42_transfer_buffer.md R214): the status it raises, or the state. -/
def tbAllocCore (cap : Word) (s : State) : Except Status State :=
  if s.tb.present = true then .error .alreadyInitialized
  else if ¬ capacityLegal s.cfg cap then .error .invalidCapacity
  else .ok { s with tb := Queue.fresh cap.toNat }

/-- tb_free_core (42_transfer_buffer.md R215). -/
def tbFreeCore (s : State) : State := { s with tb := Queue.absent }

/-- The four lane writes of a push at cursor value x, in slot order (42_transfer_buffer.md R216). -/
def tbWriteTuple (size : Nat) (m : Memory) (q : Queue) (x : Nat) (t : Four Word) :
    Except Fault Memory := do
  let m0 ← m.write size (q.laneAddr .p0 x) t.l0
  let m1 ← Memory.write size m0 (q.laneAddr .p1 x) t.l1
  let m2 ← Memory.write size m1 (q.laneAddr .p2 x) t.l2
  Memory.write size m2 (q.laneAddr .p3 x) t.l3

/-- The four lane reads at cursor value x (42_transfer_buffer.md R217, R218). -/
def tbReadTuple (size : Nat) (m : Memory) (q : Queue) (x : Nat) : Except Fault (Four Word) := do
  let t0 ← m.read size (q.laneAddr .p0 x)
  let t1 ← m.read size (q.laneAddr .p1 x)
  let t2 ← m.read size (q.laneAddr .p2 x)
  let t3 ← m.read size (q.laneAddr .p3 x)
  pure ⟨t0, t1, t2, t3⟩

/-- tb_push_core (42_transfer_buffer.md R216): none stands for FULL. -/
def tbPushCore (t : Four Word) (s : State) : Except Fault (Option State) :=
  if s.tb.present = false then .error .bufferAbsent
  else if s.tb.isFull then .ok none
  else
    match tbWriteTuple s.tbmSize s.tbm s.tb s.tb.w t with
    | .ok m => .ok (some { s with tbm := m, tb := s.tb.pushed })
    | .error f => .error f

/-- tb_peek_core (42_transfer_buffer.md R218): none stands for an empty buffer. -/
def tbPeekCore (s : State) : Except Fault (Option (Four Word)) :=
  if s.tb.present = false then .error .bufferAbsent
  else if s.tb.isEmpty then .ok none
  else
    match tbReadTuple s.tbmSize s.tbm s.tb s.tb.r with
    | .ok t => .ok (some t)
    | .error f => .error f

/-- tb_pop_core (42_transfer_buffer.md R217): none stands for an empty buffer. -/
def tbPopCore (s : State) : Except Fault (Option (Four Word × State)) :=
  match tbPeekCore s with
  | .ok (some t) => .ok (some (t, { s with tb := s.tb.popped 1 }))
  | .ok none => .ok none
  | .error f => .error f

/-- The per-slot counts of a bulk read: n[p] = min(occ, L[p]) (42_transfer_buffer.md R219). -/
def Queue.bulkCounts (q : Queue) (l : Four Nat) : Four Nat := l.map (min q.occ)

/-- tb_read_bulk_core (42_transfer_buffer.md R219): the counts, the outputs, and the state with the
shared cursor advanced by the least count. -/
def tbReadBulkCore (l : Four Nat) (s : State) :
    Except Fault (Four Nat × Four (List Word) × State) :=
  if s.tb.present = false then .error .bufferAbsent
  else do
    let n := s.tb.bulkCounts l
    let o0 ← Memory.readAll s.tbmSize s.tbm (s.tb.headLane .p0 n.l0)
    let o1 ← Memory.readAll s.tbmSize s.tbm (s.tb.headLane .p1 n.l1)
    let o2 ← Memory.readAll s.tbmSize s.tbm (s.tb.headLane .p2 n.l2)
    let o3 ← Memory.readAll s.tbmSize s.tbm (s.tb.headLane .p3 n.l3)
    pure (n, ⟨o0, o1, o2, o3⟩, { s with tb := s.tb.popped n.least })

/-! ### The interrupt (60_exceptions.md R308 to R312) -/

/-- isr_active (10_state.md R48, log 26). -/
def State.isrActive (s : State) : Bool := s.isr != .idle

/-- Taking the interrupt: irq_pending is cleared; with a handler installed, isr_active is set and
ISR.XFER_DONE is issued next; nothing else changes and nothing is saved (60_exceptions.md R310,
R312). -/
def State.takeInterrupt (s : State) : State :=
  { s with
    irqPending := false
    isr        := if s.isrInstalled = true then .entered else s.isr }

/-- Return from the interrupt: isr_active is cleared, and FG continues (60_exceptions.md R311). -/
def State.returnFromInterrupt (s : State) : State := { s with isr := .idle }

/-! ### The environment -/

/-- The draws for the next atomic step: free values, from the constant that has no body (log 5). -/
def State.redraw (s : State) : State := { s with env := Config.draws s.tick, tick := s.tick + 1 }

end Sys2Proof.Machine
end

