-- ==== Sys2Proof/Machine/Cores.lean ====
section
/-! DEFINITION. The atomic steps of the shared cores `sm_init_core`, `sm_ready_core`,
`sm_start_core` and `sm_discover_core` (40_transfer_state_machine.md R150 to R160), each told by its
caller argument where it returns to. Every link register access is one step (log 7). -/

namespace Sys2Proof.Machine

/-- sm_check(needs_init): the status an SM command issued by FG is refused with, if any
(40_transfer_state_machine.md R160). -/
def smCheck (needsInit : Bool) (s : State) : Option Status :=
  if s.scState = .iddisc ∨ s.scState = .active then some .notOwner
  else if needsInit = true ∧ s.smInited = false then some .notInitialized
  else none

/-- sc_require_active(): the status an SC command is refused with, if any (43_session.md R240). -/
def scCheck (s : State) : Option Status :=
  if s.scState = .active then none else some .notActive

/-- FAILED_OKAY_CHECK out of SM.INIT or discovery: the command's response, with sc_state back at its
prior value where SC.NEW is the command (43_session.md R241). -/
def smFail (c : SmCaller) (s : State) : State :=
  match c with
  | .command => s.answer .failedOkayCheck
  | .new l => { s with scState := l.prior }.answer .failedOkayCheck

/-! ### sm_init_core (40_transfer_state_machine.md R150) -/

/-- `LR[RCNT] <- 0x0000`. -/
def initWriteRcnt (c : SmCaller) (rate : BaudRate) (s : State) : State :=
  (s.writeRcnt 0).goto (.initReadSio c rate)

/-- The read of the SIOCNT read-modify-write. -/
def initReadSio (c : SmCaller) (rate : BaudRate) (s : State) : State :=
  s.goto (.initWriteSio c rate s.siocntRead)

/-- The write of the SIOCNT read-modify-write: MODE <- 0b10, BAUD <- rate, START <- 0. -/
def initWriteSio (c : SmCaller) (rate : BaudRate) (v : Word) (s : State) : State :=
  (s.writeSiocnt (withModeBaud rate v)).goto (.initReadErr c rate)

/-- `if LR[SIOCNT].ERR == 1: raise FAILED_OKAY_CHECK()`. -/
def initReadErr (c : SmCaller) (rate : BaudRate) (s : State) : State :=
  if s.flagErr = true then smFail c s else s.goto (.initReadRole c rate)

/-- Return from sm_init_core with OK: VALUE is the role, or SC.NEW goes on to discovery. -/
def initDone (c : SmCaller) (s : State) : State :=
  match c with
  | .command => s.respond .ok (roleValue s.smRole) []
  | .new l => s.goto (.discWriteUnready (.new l))

/-- The read of SIOCNT.SI; sm_role, sm_rate and sm_inited are latched (log 19). -/
def initReadRole (c : SmCaller) (rate : BaudRate) (s : State) : State :=
  initDone c
    { s with
      smRole   := if s.flagSi = true then .child else .parent
      smRate   := rate
      smInited := true }

/-! ### sm_ready_core (40_transfer_state_machine.md R152) -/

/-- `LR[RCNT] <- 0x0000`. -/
def readyWriteRcnt (c : ReadyCaller) (s : State) : State := (s.writeRcnt 0).goto (.readyReadSio c)

/-- The read of the SIOCNT read-modify-write. -/
def readyReadSio (c : ReadyCaller) (s : State) : State := s.goto (.readyWriteSio c s.siocntRead)

/-- Return from sm_ready_core. -/
def readyDone (c : ReadyCaller) (s : State) : State :=
  match c with
  | .command => s.answer .ok
  | .discover d => s.goto (.discClear d)
  | .queueSend k => s.respond .ok (countValue k) []

/-- The write of the SIOCNT read-modify-write: MODE <- 0b10, BAUD <- sm_rate, START <- 0. -/
def readyWriteSio (c : ReadyCaller) (v : Word) (s : State) : State :=
  readyDone c (s.writeSiocnt (withModeBaud s.smRate v))

/-! ### sm_start_core (40_transfer_state_machine.md R151) -/

/-- Return from sm_start_core with a status: SM.START surfaces it; SC.TICK makes only
FAILED_OKAY_CHECK a failure (43_session.md R243); the discovery loop aborts on FAILED_OKAY_CHECK only
(R159); SC.READ_ALL ends on FAILED_OKAY_CHECK with what it has (43_session.md R245). -/
def startDone (c : StartCaller) (st : Status) (s : State) : State :=
  match c with
  | .command => s.answer st
  | .tick =>
    if st = .failedOkayCheck then s.answer .failedOkayCheck
    else s.respond .ok (tickValue st) []
  | .discover d => if st = .failedOkayCheck then smFail d s else s.goto (.discReadId d)
  | .readAll l =>
    if st = .failedOkayCheck then
      s.respond .failedOkayCheck 0 (bulkWords ⟨l.filled, l.filled, l.filled, l.filled⟩ l.out)
    else s.goto (.readAllRead l)

/-- `if LR[SIOCNT].BUSY == 1: raise ALREADY_IN_PROGRESS()`; only a parent goes on to the start
write. -/
def startReadBusy (c : StartCaller) (s : State) : State :=
  if s.flagBusy = true then startDone c .alreadyInProgress s
  else
    match s.smRole with
    | .parent => s.goto (.startReadSio c)
    | .child => s.goto (.startReadReady c)

/-- The read of the start write. -/
def startReadSio (c : StartCaller) (s : State) : State := s.goto (.startWriteSio c s.siocntRead)

/-- The start write: START <- 1 (20_memory.md R90). -/
def startWriteSio (c : StartCaller) (v : Word) (s : State) : State :=
  (s.writeSiocnt (withStart v)).goto (.startReadReady c)

/-- `if LR[SIOCNT].SD == 0: raise FAILED_READY_CHECK()`. -/
def startReadReady (c : StartCaller) (s : State) : State :=
  if s.flagSd = true then s.goto (.startReadErr c) else startDone c .failedReadyCheck s

/-- `if LR[SIOCNT].ERR == 1: raise FAILED_OKAY_CHECK()`, else OK. -/
def startReadErr (c : StartCaller) (s : State) : State :=
  if s.flagErr = true then startDone c .failedOkayCheck s else startDone c .ok s

/-! ### sm_unready_core and sm_discover_core (40_transfer_state_machine.md R153, R159) -/

/-- sm_unready_core: `LR[RCNT] <- ALT_RCNT`. -/
def smUnreadyCore (s : State) : State := s.writeRcnt s.cfg.altRcnt

/-- "mark unready". -/
def discWriteUnready (c : SmCaller) (s : State) : State := (smUnreadyCore s).goto (.discWriteSend c)

/-- "write a reserved sentinel value into the send register"; "mark ready" comes next. -/
def discWriteSend (c : SmCaller) (s : State) : State :=
  (s.writeSend sentinel).goto (.readyWriteRcnt (.discover c))

/-- `seen_complete <- 0`; the loop comes next. DESIGN CHOICE, safe: the clear is no LR access, and the
spec does not say whether it is an atomic step of its own; here it is one, so a completion between the
ready write and it is discarded (log 36). -/
def discClear (c : SmCaller) (s : State) : State :=
  { s with seenComplete := false }.goto (.startReadBusy (.discover c))

/-- `id <- LR[SIOCNT].ID`, and the test of seen_complete, which the ID is trusted by: both in the one
step of the LR access, so that no ID read before a completion is returned (log 18). Without a
completion the loop goes round. -/
def discReadId (c : SmCaller) (s : State) : State :=
  if s.seenComplete = true then s.goto (.discCheck c s.flagId)
  else s.goto (.startReadBusy (.discover c))

/-- Return from sm_discover_core with OK: VALUE is the ID, or SC.NEW goes on to its allocation. -/
def discDone (c : SmCaller) (id : BitVec 2) (s : State) : State :=
  match c with
  | .command => s.respond .ok (idValue id) []
  | .new l => s.goto (.newInstall l id)

/-- `LR[RECV(id)] == SENTINEL`, after a completion: return, else the loop goes round (log 18). -/
def discCheck (c : SmCaller) (id : BitVec 2) (s : State) : State :=
  if s.recv.get (PlayerId.ofBits id) = sentinel then discDone c id s
  else s.goto (.startReadBusy (.discover c))

end Sys2Proof.Machine
end

