-- ==== Sys2Proof/Machine/InterruptHandler.lean ====
section
/-! DEFINITION. ISR.XFER_DONE (44_interrupt_handler.md R280). Every link register access and every
critical section of the handler is one atomic step, so LINK steps may fall between them
(20_memory.md R99); FG takes no step meanwhile (60_exceptions.md R314). -/

namespace Sys2Proof.Machine

/-- ISR.XFER_DONE, as the interrupt agent issues it: the read of RECV0; the rest of the handler goes
on in later steps. -/
def execIsrXferDone (s : State) : Outcome := .next { s with isr := .recv1 s.recv.l0 }

/-- What follows the four reads: an all-SENTINEL tuple is not pushed. -/
def isrAfterReads (t : Four Word) : IsrSeq := if allSentinel t then .pop else .push t

/-- `_ <- tb_push_core(t)`: on FULL the tuple is dropped. -/
def isrPush (t : Four Word) (s : State) : Outcome :=
  match tbPushCore t s with
  | .error f => .fault f
  | .ok none => .next { s with isr := .pop }
  | .ok (some u) => .next { u with isr := .pop }

/-- `v <- rb_pop_core()`. -/
def isrPop (s : State) : Outcome :=
  match rbPopCore s with
  | .error f => .fault f
  | .ok none => .next { s with isr := .send none }
  | .ok (some (w, u)) => .next { u with isr := .send (some w) }

/-- The SEND write, and what follows it: with RB empty and block_flag = 1 the unready write, else
the return. DEDUCED, unsafe: 44_interrupt_handler.md R283 has the word carried by the next transfer; where
none begins before the next run of the handler writes SEND, the word is overwritten here (log 35). -/
def isrSend (v : Option Word) (s : State) : State :=
  match v with
  | some w => (s.writeSend w).returnFromInterrupt
  | none =>
    if s.blockFlag = true then { s.writeSend sentinel with isr := .unready }
    else (s.writeSend sentinel).returnFromInterrupt

/-- sm_unready_core() and the return. -/
def isrUnready (s : State) : State := (smUnreadyCore s).returnFromInterrupt

/-- The handler's atomic step at each of its later positions. -/
def isrAdvance (s : State) : Outcome :=
  match s.isr with
  | .idle => .next s
  | .entered => .next s
  | .recv1 t0 => .next { s with isr := .recv2 t0 s.recv.l1 }
  | .recv2 t0 t1 => .next { s with isr := .recv3 t0 t1 s.recv.l2 }
  | .recv3 t0 t1 t2 => .next { s with isr := isrAfterReads ⟨t0, t1, t2, s.recv.l3⟩ }
  | .push t => isrPush t s
  | .pop => isrPop s
  | .send v => .next (isrSend v s)
  | .unready => .next (isrUnready s)

end Sys2Proof.Machine
end

