-- ==== Sys2Proof/Machine/RingBuffer.lean ====
section
/-! DEFINITION. The RB.* commands (41_ring_buffer.md R183 to R190), each one critical section and so
one atomic step. -/

namespace Sys2Proof.Machine

/-- RB.ALLOC (R184). -/
def execRbAlloc (cap : Word) (s : State) : Outcome :=
  match rbAllocCore cap s with
  | .ok t => .next (t.answer .ok)
  | .error st => .next (s.answer st)

/-- RB.FREE (R185). -/
def execRbFree (s : State) : Outcome :=
  if s.rb.present = false then .next (s.answer .noBuffer)
  else .next ((rbFreeCore s).answer .ok)

/-- RB.PUSH (R186). -/
def execRbPush (word : Word) (s : State) : Outcome :=
  if s.rb.present = false then .next (s.answer .noBuffer)
  else
    match rbPushCore word s with
    | .ok (some t) => .next (t.answer .ok)
    | .ok none => .next (s.answer .full)
    | .error f => .fault f

/-- RB.POP (R187). -/
def execRbPop (s : State) : Outcome :=
  if s.rb.present = false then .next (s.answer .noBuffer)
  else
    match rbPopCore s with
    | .ok (some (v, t)) => .next (t.respond .ok v [])
    | .ok none => .next (s.answer .empty)
    | .error f => .fault f

/-- RB.READ_BULK (R188). -/
def execRbReadBulk (count : Word) (s : State) : Outcome :=
  if s.rb.present = false then .next (s.answer .noBuffer)
  else
    match rbReadBulkCore count.toNat s with
    | .ok (out, t) => .next (t.respond .ok (countValue out.length) out)
    | .error f => .fault f

/-- RB.WRITE_BULK (R189). -/
def execRbWriteBulk (words : List Word) (s : State) : Outcome :=
  if s.rb.present = false then .next (s.answer .noBuffer)
  else
    match rbWriteBulkCore words s with
    | .ok (k, t) => .next (t.respond .ok (countValue k) [])
    | .error f => .fault f

/-- RB.LEN (R190). -/
def execRbLen (s : State) : Outcome :=
  if s.rb.present = false then .next (s.answer .noBuffer)
  else .next (s.respond .ok (countValue s.rb.occ) [])

end Sys2Proof.Machine
end

