-- ==== Sys2Proof/Machine/Session.lean ====
section
/-! DEFINITION. The SC.* commands (43_session.md R240 to R250). A meaning makes the command's check
and its first atomic step; the later steps of the composite commands stand beside it. -/

namespace Sys2Proof.Machine

/-! ### SC.NEW (R241) -/

/-- SC.NEW: the singleton check, the capacity check, sc_state <- IDDISC, and the first access of
sm_init_core. -/
def execScNew (rate : BaudRate) (cap : Word) (s : State) : Outcome :=
  if s.rb.present = true ∨ s.tb.present = true then .next (s.answer .alreadyInitialized)
  else if ¬ capacityLegal s.cfg cap then .next (s.answer .invalidCapacity)
  else if s.scState = .iddisc ∨ s.scState = .active then .fault .sessionStateBroken
  else .next (initWriteRcnt (.new ⟨s.scState, rate, cap⟩) rate { s with scState := .iddisc })

/-- The critical section of SC.NEW: both buffers, block_flag <- 0, isr_installed <- 1. -/
def newInstall (l : NewLocals) (id : BitVec 2) (s : State) : Outcome :=
  match rbAllocCore l.cap s with
  | .error _ => .fault .sessionStateBroken
  | .ok t =>
    match tbAllocCore l.cap t with
    | .error _ => .fault .sessionStateBroken
    | .ok u => .next ({ u with blockFlag := false, isrInstalled := true }.goto (.newReadSio l id))

/-- The read of the interrupt-enable read-modify-write. -/
def newReadSio (l : NewLocals) (id : BitVec 2) (s : State) : State :=
  s.goto (.newWriteSio l id s.siocntRead)

/-- The write of the interrupt-enable read-modify-write (IRQ <- 1, START <- 0); sc_id, sc_rate and
sc_state are set and the command ends (log 19). -/
def newWriteSio (l : NewLocals) (id : BitVec 2) (v : Word) (s : State) : State :=
  { s.writeSiocnt (withIrq true v) with
    scId    := PlayerId.ofBits id
    scRate  := l.rate
    scState := .active }.respond .ok (idValue id) []

/-! ### SC.QUEUE_SEND (R242) -/

/-- SC.QUEUE_SEND: the enqueue's critical section; the readiness re-assert comes after it. -/
def execScQueueSend (words : List Word) (s : State) : Outcome :=
  match scCheck s with
  | some st => .next (s.answer st)
  | none =>
    match rbWriteBulkCore words s with
    | .ok (k, t) => .next (t.goto (.readyWriteRcnt (.queueSend k)))
    | .error f => .fault f

/-! ### SC.TICK (R243) -/

/-- SC.TICK: the first access of sm_start_core. -/
def execScTick (s : State) : Outcome :=
  match scCheck s with
  | some st => .next (s.answer st)
  | none => .next (startReadBusy .tick s)

/-! ### SC.READ_BULK and SC.READ_ALL (R244, R245) -/

/-- SC.READ_BULK. -/
def execScReadBulk (counts : Four Word) (s : State) : Outcome :=
  match scCheck s with
  | some st => .next (s.answer st)
  | none =>
    match tbReadBulkCore (countsOf counts) s with
    | .ok (n, out, t) => .next (t.respond .ok 0 (bulkWords n out))
    | .error f => .fault f

/-- The end of SC.READ_ALL: every output holds Lc words. -/
def readAllDone (l : ReadAllLocals) (s : State) : State :=
  s.respond .ok 0 (bulkWords ⟨l.len, l.len, l.len, l.len⟩ l.out)

/-- One partial read of SC.READ_ALL, and what follows it: the end, or the re-tick. -/
def readAllRead (l : ReadAllLocals) (s : State) : Outcome :=
  if l.filled = l.len then .next (readAllDone l s)
  else
    let d := l.len - l.filled
    match tbReadBulkCore ⟨d, d, d, d⟩ s with
    | .error f => .fault f
    | .ok (n, part, t) =>
      let l' : ReadAllLocals :=
        { l with filled := l.filled + n.l0, out := l.out.zip (· ++ ·) part }
      if l'.filled < l'.len then .next (t.goto (.startReadBusy (.readAll l')))
      else .next (readAllDone l' t)

/-- SC.READ_ALL: the four lengths must be equal; then the first round of the loop. -/
def execScReadAll (counts : Four Word) (s : State) : Outcome :=
  match scCheck s with
  | some st => .next (s.answer st)
  | none =>
    if ¬ (counts.l0 = counts.l1 ∧ counts.l1 = counts.l2 ∧ counts.l2 = counts.l3) then
      .next (s.answer .mismatchedLengths)
    else readAllRead ⟨counts.l0.toNat, 0, ⟨[], [], [], []⟩⟩ s

/-! ### SC.SKIP_EMPTY (R246) -/

/-- The peek of SC.SKIP_EMPTY after k discards, and what follows it: the end, or the discard. -/
def skipPeek (k : Nat) (s : State) : Outcome :=
  match tbPeekCore s with
  | .error f => .fault f
  | .ok none => .next (s.respond .ok (countValue k) [])
  | .ok (some t) =>
    if hasPeerData s.scId t = true then .next (s.respond .ok (countValue k) [])
    else .next (s.goto (.skipPop k))

/-- The discard of SC.SKIP_EMPTY: "pops the tuple just peeked" (20_memory.md R105). -/
def skipPop (k : Nat) (s : State) : Outcome :=
  match tbPopCore s with
  | .error f => .fault f
  | .ok none => .fault .peekedTupleGone
  | .ok (some (_, t)) => .next (t.goto (.skipPeek (k + 1)))

/-- SC.SKIP_EMPTY: the first peek. -/
def execScSkipEmpty (s : State) : Outcome :=
  match scCheck s with
  | some st => .next (s.answer st)
  | none => skipPeek 0 s

/-! ### SC.ID, SC.BLOCK, SC.LEAVE (R247 to R249) -/

/-- SC.ID. -/
def execScId (s : State) : Outcome :=
  match scCheck s with
  | some st => .next (s.answer st)
  | none => .next (s.respond .ok (idValue s.scId.toBits) [])

/-- SC.BLOCK. -/
def execScBlock (flag : Bool) (s : State) : Outcome :=
  match scCheck s with
  | some st => .next (s.answer st)
  | none => .next ({ s with blockFlag := flag }.answer .ok)

/-- SC.LEAVE: the read of the interrupt-disable read-modify-write. -/
def execScLeave (s : State) : Outcome :=
  match scCheck s with
  | some st => .next (s.answer st)
  | none => .next (s.goto (.leaveWriteSio s.siocntRead))

/-- The write of the interrupt-disable read-modify-write (IRQ <- 0, START <- 0). -/
def leaveWriteSio (v : Word) (s : State) : State :=
  (s.writeSiocnt (withIrq false v)).goto .leaveTeardown

/-- The teardown's critical section, and sc_state <- LEFT. -/
def leaveTeardown (s : State) : State :=
  { tbFreeCore (rbFreeCore s) with isrInstalled := false, scState := .left }.answer .ok

end Sys2Proof.Machine
end

