-- ==== Sys2Proof/Machine/TransferBuffer.lean ====
section
/-! DEFINITION. The TB.* commands (42_transfer_buffer.md R213 to R220), each one critical section and
so one atomic step. -/

namespace Sys2Proof.Machine

/-- TB.ALLOC (R214). -/
def execTbAlloc (cap : Word) (s : State) : Outcome :=
  match tbAllocCore cap s with
  | .ok t => .next (t.answer .ok)
  | .error st => .next (s.answer st)

/-- TB.FREE (R215). -/
def execTbFree (s : State) : Outcome :=
  if s.tb.present = false then .next (s.answer .noBuffer)
  else .next ((tbFreeCore s).answer .ok)

/-- TB.PUSH (R216). -/
def execTbPush (tuple : Four Word) (s : State) : Outcome :=
  if s.tb.present = false then .next (s.answer .noBuffer)
  else
    match tbPushCore tuple s with
    | .ok (some t) => .next (t.answer .ok)
    | .ok none => .next (s.answer .full)
    | .error f => .fault f

/-- TB.POP (R217). -/
def execTbPop (s : State) : Outcome :=
  if s.tb.present = false then .next (s.answer .noBuffer)
  else
    match tbPopCore s with
    | .ok (some (v, t)) => .next (t.respond .ok 0 v.toList)
    | .ok none => .next (s.answer .empty)
    | .error f => .fault f

/-- TB.PEEK (R218). -/
def execTbPeek (s : State) : Outcome :=
  if s.tb.present = false then .next (s.answer .noBuffer)
  else
    match tbPeekCore s with
    | .ok (some v) => .next (s.respond .ok 0 v.toList)
    | .ok none => .next (s.answer .empty)
    | .error f => .fault f

/-- TB.READ_BULK (R219). -/
def execTbReadBulk (counts : Four Word) (s : State) : Outcome :=
  if s.tb.present = false then .next (s.answer .noBuffer)
  else
    match tbReadBulkCore (countsOf counts) s with
    | .ok (n, out, t) => .next (t.respond .ok 0 (bulkWords n out))
    | .error f => .fault f

/-- TB.LEN (R220). -/
def execTbLen (s : State) : Outcome :=
  if s.tb.present = false then .next (s.answer .noBuffer)
  else .next (s.respond .ok (countValue s.tb.occ) [])

end Sys2Proof.Machine
end

