-- ==== Sys2Proof/Machine/TransferStateMachine.lean ====
section
/-! DEFINITION. The SM.* commands (40_transfer_state_machine.md R150 to R160). A meaning makes the
command's check and its first atomic step; the later steps are in Cores.lean. -/

namespace Sys2Proof.Machine

/-- SM.INIT (R150). -/
def execSmInit (rate : BaudRate) (s : State) : Outcome :=
  match smCheck false s with
  | some st => .next (s.answer st)
  | none => .next (initWriteRcnt .command rate s)

/-- SM.START (R151). -/
def execSmStart (s : State) : Outcome :=
  match smCheck true s with
  | some st => .next (s.answer st)
  | none => .next (startReadBusy .command s)

/-- SM.READY (R152). -/
def execSmReady (s : State) : Outcome :=
  match smCheck true s with
  | some st => .next (s.answer st)
  | none => .next (readyWriteRcnt .command s)

/-- SM.UNREADY (R153). -/
def execSmUnready (s : State) : Outcome :=
  match smCheck true s with
  | some st => .next (s.answer st)
  | none => .next ((smUnreadyCore s).answer .ok)

/-- SM.ROLE (R154). -/
def execSmRole (s : State) : Outcome :=
  match smCheck true s with
  | some st => .next (s.answer st)
  | none => .next (s.respond .ok (roleValue s.smRole) [])

/-- SM.STATUS (R155): the SIOCNT read; the RCNT read is the next step. -/
def execSmStatus (s : State) : Outcome :=
  match smCheck true s with
  | some st => .next (s.answer st)
  | none => .next (s.goto (.statusReadRcnt s.siocntRead))

/-- SM.STATUS's second step: the RCNT read and the packed VALUE (R155). -/
def statusReadRcnt (v : Word) (s : State) : State := s.respond .ok (statusValue v s.rcnt) []

/-- SM.ID (R156). -/
def execSmId (s : State) : Outcome :=
  match smCheck true s with
  | some st => .next (s.answer st)
  | none => .next (s.respond .ok (idValue s.flagId) [])

/-- SM.SEND (R157). -/
def execSmSend (word : Word) (s : State) : Outcome :=
  match smCheck true s with
  | some st => .next (s.answer st)
  | none => .next ((s.writeSend word).answer .ok)

/-- SM.RECV (R158). -/
def execSmRecv (slot : PlayerId) (s : State) : Outcome :=
  match smCheck true s with
  | some st => .next (s.answer st)
  | none => .next (s.respond .ok (s.recv.get slot) [])

/-- SM.DISCOVER (R159): "mark unready"; the handshake goes on in later steps. -/
def execSmDiscover (s : State) : Outcome :=
  match smCheck true s with
  | some st => .next (s.answer st)
  | none => .next (discWriteUnready .command s)

end Sys2Proof.Machine
end

