-- ==== Sys2Proof/Machine/Dispatch.lean ====
section
/-! DEFINITION. The meaning of every command, one arm per constructor. -/

namespace Sys2Proof.Machine

def exec (i : Instr) (s : State) : Host.Outcome State Fault Refusal :=
  match i with
  | .smInit rate => Sys2Proof.Machine.execSmInit rate s
  | .smStart => Sys2Proof.Machine.execSmStart s
  | .smReady => Sys2Proof.Machine.execSmReady s
  | .smUnready => Sys2Proof.Machine.execSmUnready s
  | .smStatus => Sys2Proof.Machine.execSmStatus s
  | .smId => Sys2Proof.Machine.execSmId s
  | .smSend word => Sys2Proof.Machine.execSmSend word s
  | .smRecv slot => Sys2Proof.Machine.execSmRecv slot s
  | .smDiscover => Sys2Proof.Machine.execSmDiscover s
  | .smRole => Sys2Proof.Machine.execSmRole s
  | .rbAlloc cap => Sys2Proof.Machine.execRbAlloc cap s
  | .rbFree => Sys2Proof.Machine.execRbFree s
  | .rbPush word => Sys2Proof.Machine.execRbPush word s
  | .rbPop => Sys2Proof.Machine.execRbPop s
  | .rbReadBulk count => Sys2Proof.Machine.execRbReadBulk count s
  | .rbWriteBulk words => Sys2Proof.Machine.execRbWriteBulk words s
  | .rbLen => Sys2Proof.Machine.execRbLen s
  | .tbAlloc cap => Sys2Proof.Machine.execTbAlloc cap s
  | .tbFree => Sys2Proof.Machine.execTbFree s
  | .tbPush tuple => Sys2Proof.Machine.execTbPush tuple s
  | .tbPop => Sys2Proof.Machine.execTbPop s
  | .tbPeek => Sys2Proof.Machine.execTbPeek s
  | .tbReadBulk counts => Sys2Proof.Machine.execTbReadBulk counts s
  | .tbLen => Sys2Proof.Machine.execTbLen s
  | .scNew rate cap => Sys2Proof.Machine.execScNew rate cap s
  | .scQueueSend words => Sys2Proof.Machine.execScQueueSend words s
  | .scTick => Sys2Proof.Machine.execScTick s
  | .scReadBulk counts => Sys2Proof.Machine.execScReadBulk counts s
  | .scReadAll counts => Sys2Proof.Machine.execScReadAll counts s
  | .scSkipEmpty => Sys2Proof.Machine.execScSkipEmpty s
  | .scId => Sys2Proof.Machine.execScId s
  | .scBlock flag => Sys2Proof.Machine.execScBlock flag s
  | .scLeave => Sys2Proof.Machine.execScLeave s
  | .isrXferDone => Sys2Proof.Machine.execIsrXferDone s

end Sys2Proof.Machine
end

