-- ==== Sys2Proof/Machine/Sequencer.lean ====
section
/-! DEFINITION. FGSEQ: the next atomic step of the command in progress (10_state.md R32). -/

namespace Sys2Proof.Machine

/-- FG's atomic step while a command is in progress. -/
def fgAdvance (s : State) : Outcome :=
  match s.fg with
  | .idle => .next s
  | .initReadSio c rate => .next (initReadSio c rate s)
  | .initWriteSio c rate v => .next (initWriteSio c rate v s)
  | .initReadErr c rate => .next (initReadErr c rate s)
  | .initReadRole c rate => .next (initReadRole c rate s)
  | .readyWriteRcnt c => .next (readyWriteRcnt c s)
  | .readyReadSio c => .next (readyReadSio c s)
  | .readyWriteSio c v => .next (readyWriteSio c v s)
  | .startReadBusy c => .next (startReadBusy c s)
  | .startReadSio c => .next (startReadSio c s)
  | .startWriteSio c v => .next (startWriteSio c v s)
  | .startReadReady c => .next (startReadReady c s)
  | .startReadErr c => .next (startReadErr c s)
  | .discWriteUnready c => .next (discWriteUnready c s)
  | .discWriteSend c => .next (discWriteSend c s)
  | .discClear c => .next (discClear c s)
  | .discReadId c => .next (discReadId c s)
  | .discCheck c id => .next (discCheck c id s)
  | .statusReadRcnt v => .next (statusReadRcnt v s)
  | .newInstall l id => newInstall l id s
  | .newReadSio l id => .next (newReadSio l id s)
  | .newWriteSio l id v => .next (newWriteSio l id v s)
  | .readAllRead l => readAllRead l s
  | .skipPeek k => skipPeek k s
  | .skipPop k => skipPop k s
  | .leaveWriteSio v => .next (leaveWriteSio v s)
  | .leaveTeardown => .next (leaveTeardown s)

end Sys2Proof.Machine
end

