-- ==== Sys2Proof/Machine/Agents.lean ====
section
/-! DEFINITION. The three agents: what one atomic step of each does, and the agent whose turn it is
(00_scope.md R4; 20_memory.md R99 to R101; 60_exceptions.md R310, R311, R314). -/

namespace Sys2Proof.Machine

/-- FG with no command in progress: takes the command at the head of the port, if a whole one is
there, and runs it; a header refused at decode answers ILLEGAL_COMMAND (30_encoding.md R110, R118). -/
def portStep (s : State) : Outcome :=
  match portDecode s.cfg.config s.port with
  | .incomplete => .next s
  | .illegal _ rest => .next ((s.take rest).answer .illegalCommand)
  | .instr i rest => exec i (s.take rest)

/-- FG's turn: nothing while the handler runs (60_exceptions.md R314); else the next step of the
command in progress, or the next command (10_state.md R32). -/
def fgTurn (s : State) : Outcome :=
  if s.isrActive = true then .next s
  else if s.fg = .idle then portStep s
  else fgAdvance s

/-- The interrupt agent's turn: takes a pending interrupt, issues ISR.XFER_DONE once one has been
taken, or carries the handler forward (60_exceptions.md R310, R311). -/
def isrTurn (s : State) : Outcome :=
  if s.isr = .idle then
    if s.irqPending = true then .next s.takeInterrupt else .next s
  else if s.isr = .entered then exec .isrXferDone s
  else isrAdvance s

/-- One atomic step, under the draws in `env`. -/
def agentStep (s : State) : Outcome :=
  match s.env.turn with
  | .fg => fgTurn s
  | .isr => isrTurn s
  | .linkBegin => .next s.linkBegin
  | .linkComplete => .next s.linkComplete

/-- The draws for the step after this one, where there is one (log 5). -/
def redrawn : Outcome → Outcome
  | .next s => .next s.redraw
  | .fault f => .fault f
  | .refused r => .refused r

/-- The halfwords of one command placed where the next step takes them: on the port, with FG to move,
no command and no handler in progress, and CONFIG the command's. ISR.XFER_DONE is not sent by FG
(30_encoding.md R110): for it the interrupt has been taken and the interrupt agent is to move (log 30). -/
def State.placeCommand (words : List Word) (s : State) : State :=
  match decode words with
  | .instr i _ =>
    if i.op = .isrXferDone then
      { s with
        isr := .entered
        cfg := { s.cfg with config := .session }
        env := { s.env with turn := .isr } }
    else
      { s with
        port := words
        fg   := .idle
        isr  := .idle
        cfg  := { s.cfg with config := i.op.config }
        env  := { s.env with turn := .fg } }
  | _ => { s with port := words, fg := .idle, isr := .idle, env := { s.env with turn := .fg } }

end Sys2Proof.Machine
end

