-- ==== Sys2Proof/Machine/Step.lean ====
section
/-! DEFINITION. One step of the machine, and the state that runs a given opcode-table word next. -/

namespace Sys2Proof.Machine

/-- One step: the atomic step of the agent whose turn it is, then the environment's draws for the
next one. -/
def step (s : State) : Host.Outcome State Fault Refusal := redrawn (agentStep s)

/-- The state whose next step takes the command of an opcode-table word and runs it (log 30). -/
def State.withFetchWord (s : State) (nbits w : Nat) : State := s.placeCommand (tableStream nbits w)

end Sys2Proof.Machine
end

