-- ==== Sys2Proof/Machine/Asm.lean ====
section
/-! DEFINITION. The assembler syntax and the pseudo-commands (30_encoding.md R121, R122), one command
a line, as a function from characters to commands. -/

namespace Sys2Proof.Asm

/-- The value of a hexadecimal or decimal digit. -/
def digit (c : Char) : Option Nat :=
  let n := c.toNat
  if 48 ≤ n ∧ n ≤ 57 then some (n - 48)
  else if 97 ≤ n ∧ n ≤ 102 then some (n - 87)
  else if 65 ≤ n ∧ n ≤ 70 then some (n - 55)
  else none

/-- Digits in a base, after those already read. -/
def digits (base : Nat) : Nat → List Char → Option Nat
  | acc, [] => some acc
  | acc, c :: cs =>
    match digit c with
    | some d => if d < base then digits base (acc * base + d) cs else none
    | none => none

/-- A numeral, decimal or `0x` hexadecimal. -/
def numeral : List Char → Option Nat
  | [] => none
  | '0' :: 'x' :: [] => none
  | '0' :: 'x' :: cs => digits 16 0 cs
  | cs => digits 10 0 cs

/-- A flag: `0`, `1`, `false` or `true`. -/
def flag (cs : List Char) : Option Bool :=
  if cs = ['0'] ∨ cs = ['f', 'a', 'l', 's', 'e'] then some false
  else if cs = ['1'] ∨ cs = ['t', 'r', 'u', 'e'] then some true
  else none

/-- A numeral that fits `width` bits. -/
def bits (width : Nat) (cs : List Char) : Option (BitVec width) :=
  match numeral cs with
  | some n => if n < 2 ^ width then some (BitVec.ofNat width n) else none
  | none => none

/-- The pieces between commas. -/
def pieces : List Char → List (List Char)
  | [] => [[]]
  | ',' :: cs => [] :: pieces cs
  | c :: cs =>
    match pieces cs with
    | p :: ps => (c :: p) :: ps
    | [] => [[c]]

/-- Every piece as a word. -/
def words : List (List Char) → Option (List Word)
  | [] => some []
  | p :: ps =>
    match bits 16 p, words ps with
    | some w, some ws => some (w :: ws)
    | _, _ => none

/-- The text between an opening and a closing character that surround all of it. -/
def between (opening closing : Char) : List Char → Option (List Char)
  | [] => none
  | c :: cs =>
    match cs.reverse with
    | d :: inner => if c = opening ∧ d = closing then some inner.reverse else none
    | [] => none

/-- A format N payload `[w0, w1, ...]`; `[]` is the empty one. "IMM16 is the list length", so a list
longer than IMM16 can say has no encoding. -/
def listOperand (cs : List Char) : Option (List Word) :=
  match between '[' ']' cs with
  | some [] => some []
  | some inner =>
    match words (pieces inner) with
    | some ws => if ws.length < 2 ^ 16 then some ws else none
    | none => none
  | none => none

/-- A format Q payload `(x0, x1, x2, x3)`. -/
def tupleOperand (cs : List Char) : Option (Four Word) :=
  match between '(' ')' cs with
  | some inner =>
    match words (pieces inner) with
    | some [a, b, c, d] => some ⟨a, b, c, d⟩
    | _ => none
  | none => none

/-- The command of a row with its operand text, spaces removed. -/
def command (o : Op) (text : List Char) : Option Instr :=
  match o with
  | .smInit => (bits 2 text).map .smInit
  | .smRecv => (bits 2 text).map fun b => .smRecv (PlayerId.ofBits b)
  | .smSend => (bits 16 text).map .smSend
  | .rbAlloc => (bits 16 text).map .rbAlloc
  | .rbPush => (bits 16 text).map .rbPush
  | .rbReadBulk => (bits 16 text).map .rbReadBulk
  | .tbAlloc => (bits 16 text).map .tbAlloc
  | .rbWriteBulk => (listOperand text).map .rbWriteBulk
  | .scQueueSend => (listOperand text).map .scQueueSend
  | .tbPush => (tupleOperand text).map .tbPush
  | .tbReadBulk => (tupleOperand text).map .tbReadBulk
  | .scReadBulk => (tupleOperand text).map .scReadBulk
  | .scReadAll => (tupleOperand text).map .scReadAll
  | .scBlock => (flag text).map .scBlock
  | .scNew =>
    match pieces text with
    | [rate, cap] =>
      match bits 2 rate, bits 16 cap with
      | some r, some c => some (.scNew r c)
      | _, _ => none
    | _ => none
  | .smStart | .smReady | .smUnready | .smStatus | .smId | .smDiscover | .smRole
  | .rbFree | .rbPop | .rbLen | .tbFree | .tbPop | .tbPeek | .tbLen
  | .scTick | .scSkipEmpty | .scId | .scLeave | .isrXferDone =>
    if text = [] then some (buildInstr o 0 0 []) else none

/-- The row a mnemonic names. -/
def rowOf (name : List Char) : Option Op := Op.all.find? fun o => o.mnemonic.toList == name

/-- A pseudo-command by its mnemonic and operand text (30_encoding.md R122). -/
def pseudo (name text : List Char) : Option Pseudo :=
  if name = "SC.READ_EVEN".toList then (bits 16 text).map .readEven
  else if name = "SC.READ_ALL_EVEN".toList then (bits 16 text).map .readAllEven
  else if name = "SC.QUEUE1".toList then (bits 16 text).map .queue1
  else if name = "RB.WRITE1".toList then (bits 16 text).map .write1
  else if name = "TB.DROP".toList ∧ text = [] then some .drop
  else if name = "SM.CYCLE_READY".toList ∧ text = [] then some .cycleReady
  else none

/-- The commands a line assembles to; pseudo-commands are expanded before encoding (30_encoding.md
R121, R122; log 25). -/
def line (cs : List Char) : Option (List Instr) :=
  let name := cs.takeWhile (· != ' ')
  let text := (cs.dropWhile (· != ' ')).filter (· != ' ')
  match rowOf name with
  | some o => (command o text).map fun i => [i]
  | none => (pseudo name text).map Pseudo.expand

end Sys2Proof.Asm
end

