-- ==== Sys2Proof/Machine/Bus.lean ====
section
/-! DEFINITION. The link register file as a byte-addressed bus sees it: the register map, the refusal
of every access that is not an aligned 16-bit one, and the byte order (20_memory.md R82 to R85;
10_state.md R37). No command names an address (R81): this view is for the outside of the BTC. -/

namespace Sys2Proof.Machine

/-- The seven link registers (10_state.md R33). -/
inductive LrReg where
  | recv (p : PlayerId)
  | siocnt
  | send
  | rcnt
deriving DecidableEq, Repr

/-- The offset of a register from LR_BASE (20_memory.md R84). -/
def LrReg.offset : LrReg → Nat
  | .recv .p0 => 0x120
  | .recv .p1 => 0x122
  | .recv .p2 => 0x124
  | .recv .p3 => 0x126
  | .siocnt => 0x128
  | .send => 0x12A
  | .rcnt => 0x134

/-- The register at an offset from LR_BASE; "no other LR offset is accessed" (20_memory.md R84). -/
def LrReg.atOffset (off : Nat) : Option LrReg :=
  if off = 0x120 then some (.recv .p0)
  else if off = 0x122 then some (.recv .p1)
  else if off = 0x124 then some (.recv .p2)
  else if off = 0x126 then some (.recv .p3)
  else if off = 0x128 then some .siocnt
  else if off = 0x12A then some .send
  else if off = 0x134 then some .rcnt
  else none

/-- The register a bus access of `width` bits at `addr` reaches, or the reason it is refused:
"a model refuses any other width or alignment" (20_memory.md R83). -/
def lrSelect (base addr : BitVec 32) (width : Nat) : Except Refusal LrReg :=
  let off := (addr - base).toNat
  if width ≠ 16 then .error .lrWidth
  else if off % 2 ≠ 0 then .error .lrMisaligned
  else
    match LrReg.atOffset off with
    | some r => .ok r
    | none => .error .lrUnmapped

/-- A bus read. Reading has no side effect (20_memory.md R85); SEND is write-only
(10_state.md R37). -/
def State.busRead (s : State) (addr : BitVec 32) (width : Nat) : Except Refusal Word :=
  match lrSelect s.cfg.lrBase addr width with
  | .error r => .error r
  | .ok (.recv p) => .ok (s.recv.get p)
  | .ok .siocnt => .ok s.siocntRead
  | .ok .send => .error .lrWriteOnly
  | .ok .rcnt => .ok s.rcnt

/-- A bus write, with the side effects of 20_memory.md R85; RECV0 to RECV3 are read-only
(10_state.md R37). -/
def State.busWrite (s : State) (addr : BitVec 32) (width : Nat) (v : Word) : Except Refusal State :=
  match lrSelect s.cfg.lrBase addr width with
  | .error r => .error r
  | .ok (.recv _) => .error .lrReadOnly
  | .ok .siocnt => .ok (s.writeSiocnt v)
  | .ok .send => .ok (s.writeSend v)
  | .ok .rcnt => .ok (s.writeRcnt v)

/-- The two bytes a register occupies on a byte bus, the lower address first: little-endian
(20_memory.md R82). -/
def busBytes (v : Word) : BitVec 8 × BitVec 8 := (v.extractLsb' 0 8, v.extractLsb' 8 8)

end Sys2Proof.Machine
end

