-- ==== Sys2Proof/Machine/Cable.lean ====
section
/-! DEFINITION. Several units on one cable (60_exceptions.md R325, R326): one BTC per unit, whose LINK
draws agree in every transfer while the protocol's preconditions hold (20_memory.md R97). The single
unit of Step.lean leaves those draws free, which admits more runs (R326). -/

namespace Sys2Proof.Machine

/-- The units of a cable, which "share no memory and no register" (R325), and whether a precondition of
the protocol has been broken: from then on the peer words of every completion are unconstrained
(20_memory.md R97). -/
structure Cable where
  units  : List State
  broken : Bool
deriving DecidableEq, Repr

/-- The slots that hold a unit. -/
def Cable.positions (c : Cable) : List PlayerId := c.units.map fun u => u.cfg.posHw

/-- "One parent, up to three children", each at its own slot, and PRESENT on each unit is the set of
the other slots that hold a unit (R325, 00_scope.md R10). -/
abbrev Cable.wf (c : Cable) : Prop :=
  c.positions.Nodup ∧ .p0 ∈ c.positions ∧
    ∀ u ∈ c.units, ∀ p ∈ [PlayerId.p0, .p1, .p2, .p3],
      (u.cfg.present.get p = true ↔ p ∈ c.positions ∧ p ≠ u.cfg.posHw)

/-- "The BaudRate codes match" (R326): "matching BaudRate on all units", the precondition of
20_memory.md R97 that a step can break (10_state.md R35). The others, one parent and a fixed topology,
are in `Cable.wf`. -/
abbrev Cable.ratesMatch (c : Cable) : Prop := ∀ u ∈ c.units, ∀ v ∈ c.units, u.sio.baud = v.sio.baud

/-- The cable with a broken precondition noted: the codes differ while some unit is in a transfer.
DESIGN CHOICE, unsafe: that codes differing between transfers break nothing (log 24). -/
def Cable.noted (c : Cable) : Cable :=
  { c with
    broken := c.broken || (c.units.any (fun u => u.xferActive) && !decide c.ratesMatch) }

/-- The unit at a slot. -/
def Cable.unitAt (c : Cable) (p : PlayerId) : Option State := c.units.find? fun u => u.cfg.posHw == p

/-- "peers_ready on unit u is the AND of the other units' local_ready" (R326). -/
def Cable.othersReady (c : Cable) (p : PlayerId) : Bool :=
  (c.units.filter fun u => u.cfg.posHw != p).all State.localReady

/-- "peer_word(q) on every unit equals unit q's send_latch", and a slot with no unit reads SENTINEL
(R326). -/
def Cable.word (c : Cable) (p : PlayerId) : Word :=
  match c.unitAt p with
  | some u => u.sendLatch
  | none => sentinel

/-- The unit at a slot replaced. -/
def Cable.setUnit (c : Cable) (p : PlayerId) (t : State) : Cable :=
  { c with units := c.units.map fun u => if u.cfg.posHw = p then t else u }

/-- What a cable can do in one step. -/
inductive CableMove where
  /-- An FG or ISR step of the unit at slot p, under its draws. -/
  | unitStep (p : PlayerId) (e : Env)
  /-- The transfer in progress completes on every unit, each drawing its own ERR; `words` are the peer
  words each unit draws where a precondition is broken (20_memory.md R97). -/
  | complete (errs : Four Bool) (words : Four (Four Word))
  /-- FG of the unit at slot p decides on more halfwords to send (log 34). -/
  | fgSends (p : PlayerId) (words : List Word)
deriving DecidableEq, Repr

/-- "The transfer begins at once on every unit" (R326), where a child can begin one
(20_memory.md R91). -/
def Cable.beginOthers (c : Cable) (p : PlayerId) : Cable :=
  { c with units := c.units.map fun u => if u.cfg.posHw = p then u else u.linkBegin }

/-- A local step of a unit with peers_ready tied to the other units; when it begins a transfer, the
other units begin theirs in the same step. A LINK step is no local step; a fault ends the run.
DESIGN CHOICE, unsafe: a unit that leaves multiplayer mode in a transfer draws for itself alone whether
the transfer is abandoned (20_memory.md R88). The spec does not say what becomes of the transfer on the
other units; here theirs goes on to the next completion, past a new start by the parent too (log 24). -/
def Cable.localMove (c : Cable) (p : PlayerId) (e : Env) : Option Cable :=
  match c.unitAt p with
  | none => none
  | some u =>
    if e.turn = .linkBegin ∨ e.turn = .linkComplete then none
    else
      match agentStep { u with env := { e with peersReady := c.othersReady p } } with
      | .next t =>
        if u.xferActive = false ∧ t.xferActive = true then
          some ((c.setUnit p t).beginOthers p).noted
        else some (c.setUnit p t).noted
      | .fault _ => none
      | .refused _ => none

/-- The peer words a unit draws in a completion: the other units' latched words (R326), or, where a
precondition is broken, whatever it draws (20_memory.md R97). -/
def Cable.peerWords (c : Cable) (words : Four (Four Word)) (u : State) : Four Word :=
  if c.broken = true then words.get u.cfg.posHw else Four.ofFn c.word

/-- "The completion reaches every unit" (R326). That it reaches them all in one step is the model's
DESIGN CHOICE, unsafe (log 24). -/
def Cable.completeAll (c : Cable) (errs : Four Bool) (words : Four (Four Word)) : Cable :=
  { c with
    units := c.units.map fun u =>
      { u with
        env :=
          { u.env with
            err   := errs.get u.cfg.posHw
            words := c.peerWords words u } }.linkComplete }

/-- One step of a cable. -/
def Cable.move (c : Cable) : CableMove → Option Cable
  | .unitStep p e => c.localMove p e
  | .complete errs words => some (c.noted.completeAll errs words)
  | .fgSends p words => (c.unitAt p).map fun u => c.setUnit p (u.fgSends words)

end Sys2Proof.Machine
end

