-- ==== Sys2Proof/Machine/Runs.lean ====
section
/-! DEFINITION. Infinite runs; the one restriction the spec puts on their schedule, "the interrupt agent
is weakly fair" (60_exceptions.md R313); and the premises under which data eventually moves
(43_session.md R252). A single step knows nothing of them: any agent may move next (log 6). -/

namespace Sys2Proof.Machine

/-- An infinite run: each state comes from the one before by an atomic step; then FG may decide on more
halfwords to send, and the next step has whatever draws. DESIGN CHOICE: the spec does not say how the
commands of FG's loop come onto the port (00_scope.md R4); here nothing constrains what FG adds or when,
so FG can issue commands for ever (43_session.md R252). Unsafe for a claim about `step` iterated, which
adds none (log 34). -/
def IsRun (run : Nat → State) : Prop :=
  ∀ n, ∃ (t : State) (sent : List Word) (e : Env) (k : Nat),
    agentStep (run n) = .next t ∧ run (n + 1) = { t.fgSends sent with env := e, tick := k }

/-! ### Fairness (60_exceptions.md R313) -/

/-- The interrupt agent has a step to take: an interrupt to take (60_exceptions.md R310), or a handler
to carry forward (R311, R314). DEDUCED, unsafe: R313 names the taking alone (log 33). -/
abbrev State.isrEnabled (s : State) : Prop := s.irqPending = true ∨ s.isr ≠ .idle

/-- The interrupt agent takes the interrupt in this state's step (60_exceptions.md R310). -/
abbrev State.takesInterrupt (s : State) : Prop :=
  s.env.turn = .isr ∧ s.irqPending = true ∧ s.isr = .idle

/-- "The interrupt agent is weakly fair": where from some state on it always has a step to take, it
takes one. Nothing bounds when, and FG and LINK are scheduled freely (60_exceptions.md R313). -/
def WeaklyFair (run : Nat → State) : Prop :=
  ∀ n, (∀ m, n ≤ m → (run m).isrEnabled) → ∃ m, n ≤ m ∧ (run m).env.turn = .isr

/-! ### Progress (43_session.md R252) -/

/-- FG issues the command in this state's step: it stands at the head of the port, passes its decode
checks, and no command and no handler is in progress (30_encoding.md R110, R118). -/
abbrev State.issues (s : State) (i : Instr) : Prop :=
  s.env.turn = .fg ∧ s.isr = .idle ∧ s.fg = .idle ∧
    ∃ rest, portDecode s.cfg.config s.port = .instr i rest

/-- "FG issues" the command "infinitely often" (43_session.md R252). -/
def IssuesForever (run : Nat → State) (i : Instr) : Prop := ∀ n, ∃ m, n ≤ m ∧ (run m).issues i

/-- "LINK eventually completes each transfer" (43_session.md R252): one in progress stays in progress
until the step that completes it. -/
def LinkCompletes (run : Nat → State) : Prop :=
  ∀ n, (run n).xferActive = true →
    ∃ m, n ≤ m ∧ (∀ k, n ≤ k → k ≤ m → (run k).xferActive = true) ∧
      (run m).env.turn = .linkComplete

/-- What "a claim that data eventually moves must assume" of a run (43_session.md R252): "FG issues
SC.TICK infinitely often (on the parent)", LINK completes each transfer, and the interrupt agent is
weakly fair. -/
structure ProgressPremises (run : Nat → State) : Prop where
  ticks     : (run 0).cfg.roleHw = .parent → IssuesForever run .scTick
  completes : LinkCompletes run
  fair      : WeaklyFair run

end Sys2Proof.Machine
end

