-- ==== Sys2Proof/Safety.lean ====
section
/-! DEFINITION. The terms claims are stated in: a run under given draws, what a buffer holds, and the
invariant of every run (10_state.md R43, R45; 41_ring_buffer.md R182; 42_transfer_buffer.md R212;
43_session.md R251; 20_memory.md R105, R106). -/

namespace Sys2Proof

/-- The parameters are in range (00_scope.md R10). -/
abbrev Params.wf (c : Params) : Prop :=
  1 ≤ c.capMax ∧ c.capMax ≤ 32767 ∧ c.altRcnt[15] = true ∧ c.present.get c.posHw = false

end Sys2Proof

namespace Sys2Proof.Machine

/-! ### Runs under given draws -/

/-- One atomic step under the given draws, whatever draws the state carries. -/
def stepUnder (e : Env) (s : State) : Outcome := agentStep { s with env := e }

/-- Consecutive atomic steps under the given draws, one each; the schedule is `Env.turn`. -/
def play : List Env → State → Outcome
  | [], s => .next s
  | e :: es, s =>
    match stepUnder e s with
    | .next t => play es t
    | .fault f => .fault f
    | .refused r => .refused r

/-- The turns a schedule gives are all one agent's. -/
abbrev allTurns (turn : Turn) (es : List Env) : Prop := ∀ e ∈ es, e.turn = turn

/-- Commands run back to back on a standalone port, each in one atomic step: their responses in
order, and the state after them; none where one of them stops or gives no response. -/
def runCommands : List Instr → State → Option (List Response × State)
  | [], s => some ([], s)
  | i :: is, s =>
    match exec i s with
    | .next t =>
      match t.resp, runCommands is t with
      | some r, some (rs, u) => some (r :: rs, u)
      | _, _ => none
    | .fault _ => none
    | .refused _ => none

/-- A step whose turn it is to take the command at the head of the port: FG's turn, no command and
no handler in progress (10_state.md R32, 60_exceptions.md R314). -/
abbrev State.awaitsCommand (s : State) : Prop :=
  s.env.turn = .fg ∧ s.isr = .idle ∧ s.fg = .idle

/-- FG owns the SM handle and, where the command needs it, the handle is initialised: `sm_check`
passes (40_transfer_state_machine.md R160). -/
abbrev State.ownsHandle (s : State) : Prop := s.scState = .uninit ∨ s.scState = .left

/-- What power-on leaves to the environment or unspecified: RCNT, SEND, RECV0 to RECV3, send_latch and
SIOCNT's unused bits are draws, and sm_rate, sm_role, sc_id and sc_rate have no value
(70_reset_and_hazards.md R341). -/
structure ResetDraws where
  rcnt      : Word
  send      : Word
  recv      : Four Word
  sendLatch : Word
  unusedLo  : BitVec 4
  unusedHi  : Bool
  smRate    : BaudRate
  smRole    : Role
  scId      : PlayerId
  scRate    : BaudRate
deriving DecidableEq, Repr

/-- The state after reset with these draws in place of the values of log 8 and log 9. -/
def State.resetDrawing (cfg : Params) (env : Env) (d : ResetDraws) : State :=
  { State.resetWith cfg env with
    rcnt      := d.rcnt
    sio       := { Siocnt.reset with unusedLo := d.unusedLo, unusedHi := d.unusedHi }
    send      := d.send
    recv      := d.recv
    sendLatch := d.sendLatch
    smRate    := d.smRate
    smRole    := d.smRole
    scId      := d.scId
    scRate    := d.scRate }

/-! ### What the link does in a command's course -/

/-- The four words of a transfer in progress (20_memory.md R91). -/
def fourSentinels : Four Word := ⟨sentinel, sentinel, sentinel, sentinel⟩

/-- SIOCNT reads BUSY = 1 (10_state.md R34, R38). -/
abbrev State.busyNow (s : State) : Prop := s.multi ∧ s.xferActive = true

/-- SIOCNT reads SD = 1 in a step with the draws `e` (20_memory.md R93). -/
abbrev State.readyUnder (s : State) (e : Env) : Prop := s.multi ∧ e.peersReady = true

/-- The state after a start write, under the draws of its step: a transfer begins on a parent in
multiplayer mode with none in progress, if its peers are ready or LINK draws that it begins; nothing
else happens (20_memory.md R90, R91). -/
def State.afterStartWrite (e : Env) (s : State) : State :=
  if s.multi ∧ s.cfg.roleHw = .parent ∧ s.xferActive = false ∧
      (e.peersReady = true ∨ e.race = true) then
    { s with xferActive := true, sendLatch := s.send, recv := fourSentinels, env := e }
  else { s with env := e }

/-- ERR once the unit has entered multiplayer mode by an RCNT write under the draws `e` and then a
SIOCNT write under the draws `e'`: kept where the mode was multiplayer before; else drawn by the
write that makes it so (20_memory.md R88, R96). -/
def State.errAfterEntry (e e' : Env) (s : State) : Bool :=
  if s.multi then s.sio.err else if s.sio.mode = 2 then e.err else e'.err

/-- The state in multiplayer mode at a rate, with an ERR and an id_valid, and the draws of the last
step (40_transfer_state_machine.md R150, R152). -/
def State.inMulti (rate : BaudRate) (err idValid : Bool) (e : Env) (s : State) : State :=
  { s with
    rcnt    := 0
    sio     := { s.sio with baud := rate, mode := 2, err := err }
    idValid := idValid
    env     := e }

/-- What an entry into multiplayer mode may leave in id_valid: it keeps its value where the mode was
multiplayer before, and it "keeps the value 0" (20_memory.md R88). -/
abbrev State.idValidKept (s : State) (v : Bool) : Prop :=
  (s.multi → v = s.idValid) ∧ (s.idValid = false → v = false)

/-! ### What a buffer holds -/

/-- The queued words of RB, oldest first (41_ring_buffer.md R180). -/
def State.rbContents (s : State) : List (Option Word) :=
  (s.rb.headSlots s.rb.occ).map s.rbm.lookup

/-- The queued words of lane p of TB, oldest first (42_transfer_buffer.md R210). -/
def State.tbLane (s : State) (p : PlayerId) : List (Option Word) :=
  (s.tb.headLane p s.tb.occ).map s.tbm.lookup

/-- A buffer's capacity and cursors are legal (00_scope.md R9; 10_state.md R43, R45). -/
abbrev Queue.legal (capMax : Nat) (q : Queue) : Prop :=
  1 ≤ q.cap ∧ q.cap ≤ capMax ∧ q.r < 2 * q.cap ∧ q.w < 2 * q.cap ∧ q.occ ≤ q.cap

/-- RB is present and legal and holds exactly these words, oldest first. -/
abbrev State.rbHolds (s : State) (ws : List Word) : Prop :=
  s.rb.present = true ∧ s.rb.legal s.cfg.capMax ∧ s.rbContents = ws.map some

/-- TB is present and legal and holds exactly these tuples, oldest first. -/
abbrev State.tbHolds (s : State) (ts : List (Four Word)) : Prop :=
  s.tb.present = true ∧ s.tb.legal s.cfg.capMax ∧
    ∀ p ∈ [PlayerId.p0, .p1, .p2, .p3], s.tbLane p = ts.map fun t => some (t.get p)

/-- Lane p of the first k of some tuples. -/
def laneTake (p : PlayerId) (k : Nat) (ts : List (Four Word)) : List Word :=
  (ts.take k).map fun t => t.get p

/-- The four lanes of the first k p tuples, slot by slot. -/
def lanesTake (k : Four Nat) (ts : List (Four Word)) : Four (List Word) :=
  ⟨laneTake .p0 k.l0 ts, laneTake .p1 k.l1 ts, laneTake .p2 k.l2 ts, laneTake .p3 k.l3 ts⟩

/-- The tuple holds no peer's data: every word but the unit's own is SENTINEL (00_scope.md R22,
"Empty transfer"). -/
abbrev emptyTransfer (own : PlayerId) (t : Four Word) : Prop :=
  ∀ p ∈ [PlayerId.p0, .p1, .p2, .p3], p ≠ own → t.get p = sentinel

/-! ### What commands accept and return (41_ring_buffer.md R191, 42_transfer_buffer.md R222) -/

/-- The words RB accepted from a command, by its response. -/
def rbAccepted (i : Instr) (r : Response) : List Word :=
  match i with
  | .rbPush v => if r.status = .ok then [v] else []
  | .rbWriteBulk ws => ws.take r.value.toNat
  | _ => []

/-- The words RB returned to a command, by its response. -/
def rbReturned (i : Instr) (r : Response) : List Word :=
  match i with
  | .rbPop => if r.status = .ok then [r.value] else []
  | .rbReadBulk _ => r.words
  | _ => []

/-- The tuples TB accepted from a command, by its response. -/
def tbAccepted (i : Instr) (r : Response) : List (Four Word) :=
  match i with
  | .tbPush t => if r.status = .ok then [t] else []
  | _ => []

/-- Lane p of a four-slot response: four counts, then the data slot by slot (30_encoding.md R115). -/
def bulkLane (p : PlayerId) (ws : List Word) : List Word :=
  match ws with
  | n0 :: n1 :: n2 :: n3 :: data =>
    match p with
    | .p0 => data.take n0.toNat
    | .p1 => (data.drop n0.toNat).take n1.toNat
    | .p2 => (data.drop (n0.toNat + n1.toNat)).take n2.toNat
    | .p3 => (data.drop (n0.toNat + n1.toNat + n2.toNat)).take n3.toNat
  | _ => []

/-- How many tuples a four-slot bulk read consumes: the least of its counts (42_transfer_buffer.md
R219). -/
def bulkConsumed (ws : List Word) : Nat :=
  match ws with
  | n0 :: n1 :: n2 :: n3 :: _ => min (min n0.toNat n1.toNat) (min n2.toNat n3.toNat)
  | _ => 0

/-- The lane-p words TB gave up to a command, by its response: re-delivered words are not counted
(42_transfer_buffer.md R222). -/
def tbConsumed (p : PlayerId) (i : Instr) (r : Response) : List Word :=
  match i with
  | .tbPop => if r.status = .ok then [(fourOfList r.words).get p] else []
  | .tbReadBulk _ => (bulkLane p r.words).take (bulkConsumed r.words)
  | _ => []

/-! ### The invariant -/

/-- The stretch of a command FGSEQ is in. -/
inductive Phase where
  /-- No command in progress. -/
  | idle
  /-- An SM command. -/
  | handle
  /-- SC.NEW before its buffers are allocated. -/
  | opening
  /-- SC.NEW after its buffers are allocated. -/
  | installed
  /-- A command of an ACTIVE session. -/
  | session
deriving DecidableEq, Repr

/-- The stretch of an SM core's caller. -/
def SmCaller.phase : SmCaller → Phase
  | .command => .handle
  | .new _ => .opening

/-- The stretch of sm_ready_core's caller. -/
def ReadyCaller.phase : ReadyCaller → Phase
  | .command => .handle
  | .discover c => c.phase
  | .queueSend _ => .session

/-- The stretch of sm_start_core's caller. -/
def StartCaller.phase : StartCaller → Phase
  | .command => .handle
  | .tick => .session
  | .discover c => c.phase
  | .readAll _ => .session

/-- The stretch of FGSEQ's position. -/
def FgSeq.phase : FgSeq → Phase
  | .idle => .idle
  | .initReadSio c _ => c.phase
  | .initWriteSio c _ _ => c.phase
  | .initReadErr c _ => c.phase
  | .initReadRole c _ => c.phase
  | .readyWriteRcnt c => c.phase
  | .readyReadSio c => c.phase
  | .readyWriteSio c _ => c.phase
  | .startReadBusy c => c.phase
  | .startReadSio c => c.phase
  | .startWriteSio c _ => c.phase
  | .startReadReady c => c.phase
  | .startReadErr c => c.phase
  | .discWriteUnready c => c.phase
  | .discWriteSend c => c.phase
  | .discClear c => c.phase
  | .discReadId c => c.phase
  | .discCheck c _ => c.phase
  | .statusReadRcnt _ => .handle
  | .newInstall _ _ => .opening
  | .newReadSio _ _ => .installed
  | .newWriteSio _ _ _ => .installed
  | .readAllRead _ => .session
  | .skipPeek _ => .session
  | .skipPop _ => .session
  | .leaveWriteSio _ => .session
  | .leaveTeardown => .session

/-- The locals of SC.NEW in an SM core's caller. -/
def SmCaller.newLocals : SmCaller → Option NewLocals
  | .command => none
  | .new l => some l

/-- The locals of SC.NEW, where it is the command in progress. -/
def FgSeq.newLocals : FgSeq → Option NewLocals
  | .initReadSio c _ => c.newLocals
  | .initWriteSio c _ _ => c.newLocals
  | .initReadErr c _ => c.newLocals
  | .initReadRole c _ => c.newLocals
  | .readyWriteRcnt (.discover c) => c.newLocals
  | .readyReadSio (.discover c) => c.newLocals
  | .readyWriteSio (.discover c) _ => c.newLocals
  | .startReadBusy (.discover c) => c.newLocals
  | .startReadSio (.discover c) => c.newLocals
  | .startWriteSio (.discover c) _ => c.newLocals
  | .startReadReady (.discover c) => c.newLocals
  | .startReadErr (.discover c) => c.newLocals
  | .discWriteUnready c => c.newLocals
  | .discWriteSend c => c.newLocals
  | .discClear c => c.newLocals
  | .discReadId c => c.newLocals
  | .discCheck c _ => c.newLocals
  | .newInstall l _ => some l
  | .newReadSio l _ => some l
  | .newWriteSio l _ _ => some l
  | _ => none

/-- The locals of SC.READ_ALL, where it is the command in progress. -/
def FgSeq.readAllLocals : FgSeq → Option ReadAllLocals
  | .startReadBusy (.readAll l) => some l
  | .startReadSio (.readAll l) => some l
  | .startWriteSio (.readAll l) _ => some l
  | .startReadReady (.readAll l) => some l
  | .startReadErr (.readAll l) => some l
  | .readAllRead l => some l
  | _ => none

/-- The SIOCNT value a read-modify-write has read and is about to write back. -/
def FgSeq.sioLocal : FgSeq → Option Word
  | .initWriteSio _ _ v => some v
  | .readyWriteSio _ v => some v
  | .startWriteSio _ v => some v
  | .newWriteSio _ _ v => some v
  | .leaveWriteSio v => some v
  | _ => none

/-- FGSEQ stands inside sm_init_core. -/
def FgSeq.inInit : FgSeq → Bool
  | .initReadSio _ _ => true
  | .initWriteSio _ _ _ => true
  | .initReadErr _ _ => true
  | .initReadRole _ _ => true
  | _ => false

/-- FGSEQ stands in the discovery loop (40_transfer_state_machine.md R159). -/
def FgSeq.inLoop : FgSeq → Bool
  | .startReadBusy (.discover _) => true
  | .startReadSio (.discover _) => true
  | .startWriteSio (.discover _) _ => true
  | .startReadReady (.discover _) => true
  | .startReadErr (.discover _) => true
  | .discReadId _ => true
  | .discCheck _ _ => true
  | _ => false

/-- FGSEQ stands between an RCNT write of 0x0000 and the next RCNT write of the same command, in
sm_init_core and in discovery (40_transfer_state_machine.md R150, R152, R159). -/
def FgSeq.rcntCleared : FgSeq → Bool
  | .readyReadSio (.discover _) => true
  | .readyWriteSio (.discover _) _ => true
  | .discClear _ => true
  | f => f.inInit || f.inLoop

/-- FGSEQ stands behind the SIOCNT write of those stretches, which sets MODE to 0b10. -/
def FgSeq.modeSet : FgSeq → Bool
  | .initReadErr _ _ => true
  | .initReadRole _ _ => true
  | .discClear _ => true
  | f => f.inLoop

/-- The ID discovery has found, while its command goes on (40_transfer_state_machine.md R159,
43_session.md R241). -/
def FgSeq.foundId : FgSeq → Option (BitVec 2)
  | .discCheck _ id => some id
  | .newInstall _ id => some id
  | .newReadSio _ id => some id
  | .newWriteSio _ id _ => some id
  | _ => none

/-- A buffer and its store: legal cursors, every queued word written, an absent buffer at its reset
values, and the store in canonical form within its size (10_state.md R42 to R45; 20_memory.md R80;
41_ring_buffer.md R182; 42_transfer_buffer.md R212). -/
structure State.BuffersOk (s : State) : Prop where
  rbLegal   : s.rb.present = true → s.rb.legal s.cfg.capMax
  rbAbsent  : s.rb.present = false → s.rb = Queue.absent
  rbWritten : s.rb.present = true → s.rbContents.all Option.isSome = true
  rbmWf     : s.rbm.wf
  rbmSize   : ∀ c ∈ s.rbm, c.1 < s.rbmSize
  tbLegal   : s.tb.present = true → s.tb.legal s.cfg.capMax
  tbAbsent  : s.tb.present = false → s.tb = Queue.absent
  tbWritten : s.tb.present = true →
    ∀ p ∈ [PlayerId.p0, .p1, .p2, .p3], (s.tbLane p).all Option.isSome = true
  tbmWf     : s.tbm.wf
  tbmSize   : ∀ c ∈ s.tbm, c.1 < s.tbmSize

/-- Whether a session's resources are in place: both buffers and the handler, or none of them
(43_session.md R241, R249, R251). -/
abbrev State.sessionUp (s : State) : Prop :=
  s.rb.present = true ∧ s.tb.present = true ∧ s.isrInstalled = true

/-- None of a session's resources is in place. -/
abbrev State.sessionDown (s : State) : Prop :=
  s.rb.present = false ∧ s.tb.present = false ∧ s.isrInstalled = false

/-- What FGSEQ's position says of the session state (43_session.md R241, R249, R250). -/
def State.phaseOk (s : State) : Prop :=
  match s.fg.phase with
  | .idle => (s.scState = .active ∧ s.sessionUp) ∨ ((s.scState = .uninit ∨ s.scState = .left) ∧ s.sessionDown)
  | .handle => (s.scState = .uninit ∨ s.scState = .left) ∧ s.sessionDown
  | .opening => s.scState = .iddisc ∧ s.sessionDown
  | .installed => s.scState = .iddisc ∧ s.sessionUp
  | .session => s.scState = .active ∧ s.sessionUp

/-- The session side of the invariant, in CONFIG = SESSION. -/
structure State.SessionOk (s : State) : Prop where
  phase      : s.phaseOk
  /-- The handle is initialised once a command past SM.INIT runs (R160, R241). -/
  inited     : s.fg ≠ .idle → s.fg.inInit = false → s.smInited = true
  active     : s.scState = .active → s.smInited = true
  /-- SC.NEW's locals: its checks have passed, and prior is UNINIT or LEFT (R241). -/
  newOk      : ∀ l, s.fg.newLocals = some l →
    capacityLegal s.cfg l.cap ∧ (l.prior = .uninit ∨ l.prior = .left)
  /-- SC.READ_ALL's locals (R245). -/
  readAllOk  : ∀ l, s.fg.readAllLocals = some l →
    l.filled < l.len ∧ l.len < 2 ^ 16 ∧ l.out.l0.length = l.filled ∧ l.out.l1.length = l.filled ∧
      l.out.l2.length = l.filled ∧ l.out.l3.length = l.filled
  /-- The tuple SC.SKIP_EMPTY peeked is still there (20_memory.md R105). -/
  peeked     : ∀ k, s.fg = .skipPop k → ¬ s.tb.isEmpty
  /-- "FG's read-modify-writes of SIOCNT never race with ISR" (20_memory.md R106). -/
  noRace     : ∀ v, s.fg.sioLocal = some v → s.sio.store v = s.sio
  /-- The handler runs only while it is installed (60_exceptions.md R310, R312). -/
  handler    : s.isr ≠ .idle → s.isrInstalled = true
  /-- The interrupt is enabled only while a handler is installed (43_session.md R241, R249). -/
  enabled    : s.sio.irq = true → s.isrInstalled = true
  disabled   : s.fg = .leaveTeardown → s.sio.irq = false
  /-- sm_init_core and discovery read SIOCNT in multiplayer mode (40_transfer_state_machine.md R150,
  R159). -/
  serial     : s.fg.rcntCleared = true → s.rcnt[15] = false
  multiMode  : s.fg.modeSet = true → s.sio.mode = 2
  /-- "After that completion, `id_valid` = 1" (40_transfer_state_machine.md R159). -/
  loopId     : s.fg.inLoop = true → s.seenComplete = true → s.idValid = true
  /-- Discovery "never returns a pre-transfer garbage ID" (92_eei_decisions.md D15), so the session's
  ID is POS_HW. -/
  found      : ∀ id, s.fg.foundId = some id → id = s.cfg.posHw.toBits
  sessionId  : s.scState = .active → s.scId = s.cfg.posHw
  /-- "It returns the role latched by the last successful SM.INIT ... so the two agree" (R154). -/
  role       : s.smInited = true → s.smRole = s.cfg.roleHw

/-- What holds instead in CONFIG = STANDALONE, where no SM or SC command is accepted
(30_encoding.md R118, 70_reset_and_hazards.md R343). -/
structure State.StandaloneOk (s : State) : Prop where
  fg        : s.fg = .idle
  isr       : s.isr = .idle
  installed : s.isrInstalled = false
  sc        : s.scState = .uninit
  sm        : s.smInited = false
  irq       : s.sio.irq = false

/-- The invariant of every run: it holds after reset and every step keeps it. -/
structure State.Inv (s : State) : Prop where
  params     : s.cfg.wf
  buffers    : s.BuffersOk
  session    : s.cfg.config = .session → s.SessionOk
  standalone : s.cfg.config = .standalone → s.StandaloneOk
  /-- RECV reads SENTINEL while a transfer is in progress (10_state.md R37, 20_memory.md R91). -/
  inProgress : s.xferActive = true → s.recv = ⟨sentinel, sentinel, sentinel, sentinel⟩

end Sys2Proof.Machine
end

