-- ==== Sys2Proof/Certificates/Slice0/Obligations.lean ====
section
/-! DEFINITION. The statements for the provers. A run of a composite command is stated with
`play [e1, e2, ...]`: the atomic steps after the command's first one, each under its own draws, on a
schedule where no other agent moves in between. What other agents may do in between is in
the statements about steps (`InvariantKept`, `AgentsKeepTheirParts`, `TransferCompletion`, ...). -/

section

open Sys2Proof Sys2Proof.Machine

/-! ### Encoding -/

/-- Decoding the halfwords of an encodable command gives it back, with the halfwords after it. The
order of the header's halves on the port is the model's (log 1). -/
def Obligations.DecodeOfEncode : Prop :=
  ∀ (i : Instr) (rest : List Word), i.wf → decode (encode i ++ rest) = .instr i rest

/-- What decodes is exactly an encoding: no bit of a header is dropped. The order of the header's
halves on the port is the model's (log 1). -/
def Obligations.EncodeOfDecode : Prop :=
  ∀ (ws rest : List Word) (i : Instr), decode ws = .instr i rest → i.wf ∧ ws = encode i ++ rest

/-- The checks on a header from FG, the payload that is consumed whatever they say, and the response
to a header they refuse (30_encoding.md R118). -/
def Obligations.HeaderChecks : Prop :=
  (∀ (config : PortConfig) (h : BitVec 32) (payload rest : List Word),
    (Op.ofCode (headerOpc h) = none →
      ∃ why, portDecode config (headerHalves h ++ rest) = .illegal why rest) ∧
    ∀ o, Op.ofCode (headerOpc h) = some o → payload.length = o.fmt.payloadLen (headerImm h) →
      let broken : Prop :=
        headerRsv h ≠ 0 ∨
        ((o.fmt = .h ∨ o.fmt = .i ∨ o.fmt = .n ∨ o.fmt = .q) ∧ headerA2 h ≠ 0) ∨
        ((o.fmt = .h ∨ o.fmt = .a ∨ o.fmt = .q) ∧ headerImm h ≠ 0) ∨
        (o = .scBlock ∧ (headerA2 h)[1] = true) ∨ o = .isrXferDone ∨ o.config ≠ config
      (broken → ∃ why, portDecode config (headerHalves h ++ payload ++ rest) = .illegal why rest) ∧
      (¬ broken → ∃ i, portDecode config (headerHalves h ++ payload ++ rest) = .instr i rest ∧
        i.op = o ∧ i.a2 = headerA2 h ∧ i.imm = headerImm h ∧ i.payload = payload)) ∧
  ∀ (s : State) (why : Illegal) (rest : List Word),
    s.awaitsCommand → portDecode s.cfg.config s.port = .illegal why rest →
      agentStep s = .next ((s.take rest).respond .illegalCommand 0 [])

/-- The reserved and the custom opcodes: none of them is a command, every other opcode is one, and
each is refused with ILLEGAL_COMMAND, its header alone consumed (30_encoding.md R119). -/
def Obligations.ReservedOpcodesRefused : Prop :=
  (∀ c : BitVec 8,
    Op.ofCode c = none ↔
      c = 0x00 ∨ (0x0B ≤ c ∧ c ≤ 0x0F) ∨ (0x17 ≤ c ∧ c ≤ 0x1F) ∨ (0x27 ≤ c ∧ c ≤ 0x2F) ∨
      (0x39 ≤ c ∧ c ≤ 0x3F) ∨ (0x41 ≤ c ∧ c ≤ 0xEF) ∨ 0xF0 ≤ c) ∧
  ∀ (s : State) (h : BitVec 32) (rest : List Word),
    s.awaitsCommand → Op.ofCode (headerOpc h) = none → s.port = headerHalves h ++ rest →
      agentStep s = .next ((s.take rest).respond .illegalCommand 0 [])

/-- The words of 30_encoding.md R121's examples, and one of each other family, decode to the commands
they stand for. The halves' order is the model's (log 1). -/
def Obligations.SpecWordsDecode : Prop :=
  decode [0x1234, 0x1200] = .instr (.rbPush 0x1234) [] ∧
  decode [0x0000, 0x0103] = .instr (.smInit 3) [] ∧
  decode [0x0004, 0x3003] = .instr (.scNew 3 4) [] ∧
  decode [0x0002, 0x1500, 0x000A, 0x0014] = .instr (.rbWriteBulk [10, 20]) [] ∧
  decode [0x0000, 0x2500, 3, 3, 3, 3] = .instr (.tbReadBulk ⟨3, 3, 3, 3⟩) [] ∧
  decode [0x0000, 0x3701] = .instr (.scBlock true) [] ∧
  decode [0x0000, 0x0801] = .instr (.smRecv .p1) [] ∧
  decode [0x0000, 0x4000] = .instr .isrXferDone []

/-- The expansions of the pseudo-commands (30_encoding.md R122), and R121's examples as the assembler
reads them. -/
def Obligations.AssemblerExpands : Prop :=
  (∀ n : Word, (Pseudo.readEven n).expand = [.scReadBulk ⟨n, n, n, n⟩]) ∧
  (∀ n : Word, (Pseudo.readAllEven n).expand = [.scReadAll ⟨n, n, n, n⟩]) ∧
  (∀ v : Word, (Pseudo.queue1 v).expand = [.scQueueSend [v]]) ∧
  (∀ v : Word, (Pseudo.write1 v).expand = [.rbWriteBulk [v]]) ∧
  Pseudo.drop.expand = [.tbPop] ∧ Pseudo.cycleReady.expand = [.smUnready, .smReady] ∧
  Asm.line "SC.READ_EVEN 4".toList = some (Pseudo.readEven 4).expand ∧
  Asm.line "SC.READ_ALL_EVEN 2".toList = some (Pseudo.readAllEven 2).expand ∧
  Asm.line "SC.QUEUE1 0x1234".toList = some (Pseudo.queue1 0x1234).expand ∧
  Asm.line "RB.WRITE1 7".toList = some (Pseudo.write1 7).expand ∧
  Asm.line "TB.DROP".toList = some Pseudo.drop.expand ∧
  Asm.line "SM.CYCLE_READY".toList = some Pseudo.cycleReady.expand ∧
  Asm.line "RB.PUSH 0x1234".toList = some [.rbPush 0x1234] ∧
  Asm.line "SC.NEW 3, 4".toList = some [.scNew 3 4] ∧
  Asm.line "RB.WRITE_BULK [10, 20]".toList = some [.rbWriteBulk [10, 20]] ∧
  Asm.line "TB.READ_BULK (3, 3, 3, 3)".toList = some [.tbReadBulk ⟨3, 3, 3, 3⟩]

/-- A step runs the decoded command: FG's turn with a whole command at the head of the port takes it
off the port and is its meaning, followed by the next step's draws; the interrupt agent's turn after
the interrupt has been taken is ISR.XFER_DONE's meaning (30_encoding.md R110, R118;
60_exceptions.md R310). -/
def Obligations.StepRunsDecoded : Prop :=
  (∀ (s : State) (i : Instr) (rest : List Word),
    s.awaitsCommand → decode s.port = .instr i rest → i.op ≠ .isrXferDone →
    i.op.config = s.cfg.config → step s = redrawn (exec i (s.take rest))) ∧
  ∀ s : State, s.env.turn = .isr → s.isr = .entered → step s = redrawn (exec .isrXferDone s)

/-- The response status word: STATUS in [7:0], 0 in [15:8], VALUE in [31:16] (30_encoding.md R114),
and the status numbers in the order of the table of 60_exceptions.md R300. -/
def Obligations.ResponseStatusWord : Prop :=
  (∀ r : Response,
    r.statusWord.extractLsb' 0 8 = r.status.code ∧ r.statusWord.extractLsb' 8 8 = 0 ∧
      r.statusWord.extractLsb' 16 16 = r.value) ∧
  [Status.ok, .alreadyInProgress, .failedReadyCheck, .failedOkayCheck, .alreadyInitialized, .full,
    .empty, .mismatchedLengths, .notActive, .notInitialized, .notOwner, .invalidCapacity,
    .illegalCommand, .noBuffer].map Status.code = [0, 1, 2, 3, 4, 5, 6, 7, 8, 9, 10, 11, 12, 13]

/-! ### Reset and the invariant -/

/-- Every value 70_reset_and_hazards.md R341 fixes, whatever the parameters and the first draws; the
mode is OTHER whatever RCNT holds (R342). State.reset is that state for the parameters of log 4 and the
draws of log 5. -/
def Obligations.ResetValues : Prop :=
  ∀ (cfg : Params) (env : Env),
    let s := State.resetWith cfg env
    s.fg = .idle ∧ s.sio.baud = 0 ∧ s.flagSi = env.garbage[2] ∧ s.flagSd = false ∧
    s.flagId = env.garbage.extractLsb' 4 2 ∧ s.sio.err = false ∧ s.flagBusy = false ∧
    s.sio.mode = 0 ∧ s.sio.irq = false ∧ s.xferActive = false ∧ s.idValid = false ∧
    s.irqPending = false ∧ s.seenComplete = false ∧ s.isrActive = false ∧ s.smInited = false ∧
    s.rb = ⟨false, 0, 0, 0⟩ ∧ s.tb = ⟨false, 0, 0, 0⟩ ∧ s.scState = .uninit ∧
    s.blockFlag = false ∧ s.isrInstalled = false ∧
    (∀ rc : Word, ¬ { s with rcnt := rc }.multi) ∧
    State.reset = State.resetWith Params.default Env.reset

/-- The commands accepted right after reset, whatever reset leaves to draws or unspecified
(70_reset_and_hazards.md R341, R343). -/
def Obligations.CommandsAfterReset : Prop :=
  ∀ (cfg : Params) (env : Env) (d : ResetDraws),
    let s := State.resetDrawing cfg env d
    (∀ i : Instr,
      (i.op ∈ [Op.smStart, .smReady, .smUnready, .smStatus, .smId, .smSend, .smRecv, .smDiscover,
          .smRole] → exec i s = .next (s.respond .notInitialized 0 [])) ∧
      (i.op ∈ [Op.scQueueSend, .scTick, .scReadBulk, .scReadAll, .scSkipEmpty, .scId, .scBlock,
          .scLeave] → exec i s = .next (s.respond .notActive 0 [])) ∧
      (i.op ∈ [Op.rbFree, .rbPush, .rbPop, .rbReadBulk, .rbWriteBulk, .rbLen, .tbFree, .tbPush,
          .tbPop, .tbPeek, .tbReadBulk, .tbLen] → exec i s = .next (s.respond .noBuffer 0 []))) ∧
    (∀ rate : BaudRate, ∃ t, exec (.smInit rate) s = .next t ∧ t.fg = .initReadSio .command rate) ∧
    ∀ cap : Word, capacityLegal cfg cap →
      (∀ rate : BaudRate, ∃ t, exec (.scNew rate cap) s = .next t ∧
        t.fg = .initReadSio (.new ⟨.uninit, rate, cap⟩) rate) ∧
      exec (.rbAlloc cap) s = .next ({ s with rb := ⟨true, cap.toNat, 0, 0⟩ }.respond .ok 0 []) ∧
      exec (.tbAlloc cap) s = .next ({ s with tb := ⟨true, cap.toNat, 0, 0⟩ }.respond .ok 0 [])

/-- The invariant holds after reset, for any parameters in range, any first draws and any values of what
reset leaves to draws or unspecified (70_reset_and_hazards.md R341). -/
def Obligations.InvariantAtReset : Prop :=
  (∀ (cfg : Params) (env : Env) (d : ResetDraws), cfg.wf → (State.resetDrawing cfg env d).Inv) ∧
  (∀ (cfg : Params) (env : Env), cfg.wf → (State.resetWith cfg env).Inv) ∧ State.reset.Inv

/-- Every step keeps the invariant: legal cursors, every queued word written, stores in canonical
form, the session's resources in place exactly in its states, the handle latched, the interrupt
enabled only with a handler installed, the SIOCNT read-modify-writes unraced, the ID that discovery
found and the session's ID POS_HW (by the model's reading of the exit test, log 18). -/
def Obligations.InvariantKept : Prop :=
  ∀ s t : State, s.Inv → step s = .next t → t.Inv

/-- No state of the invariant stops: "The BTC has no fault, abort or trap outcome"
(60_exceptions.md R302). -/
def Obligations.NoStateOfTheInvariantStops : Prop :=
  ∀ s : State, s.Inv → ∃ t, step s = .next t

/-! ### RB -/

/-- RB.ALLOC and TB.ALLOC (41_ring_buffer.md R184, 42_transfer_buffer.md R214). -/
def Obligations.AllocMakesEmptyBuffer : Prop :=
  ∀ (s : State) (cap : Word),
    (Instr.rbAlloc cap).header = 0x10000000 ||| cap.setWidth 32 ∧
    (s.rb.present = true → exec (.rbAlloc cap) s = .next (s.respond .alreadyInitialized 0 [])) ∧
    (s.rb.present = false → (cap = 0 ∨ s.cfg.capMax < cap.toNat) →
      exec (.rbAlloc cap) s = .next (s.respond .invalidCapacity 0 [])) ∧
    (s.rb.present = false → cap ≠ 0 → cap.toNat ≤ s.cfg.capMax →
      let t : State := { s with rb := ⟨true, cap.toNat, 0, 0⟩ }
      exec (.rbAlloc cap) s = .next (t.respond .ok 0 []) ∧ t.rbHolds []) ∧
    (Instr.tbAlloc cap).header = 0x20000000 ||| cap.setWidth 32 ∧
    (s.tb.present = true → exec (.tbAlloc cap) s = .next (s.respond .alreadyInitialized 0 [])) ∧
    (s.tb.present = false → (cap = 0 ∨ s.cfg.capMax < cap.toNat) →
      exec (.tbAlloc cap) s = .next (s.respond .invalidCapacity 0 [])) ∧
    (s.tb.present = false → cap ≠ 0 → cap.toNat ≤ s.cfg.capMax →
      let t : State := { s with tb := ⟨true, cap.toNat, 0, 0⟩ }
      exec (.tbAlloc cap) s = .next (t.respond .ok 0 []) ∧ t.tbHolds [])

/-- Every RB command but RB.ALLOC, and every TB command but TB.ALLOC, answers NO_BUFFER where its
buffer is absent (41_ring_buffer.md R183, 42_transfer_buffer.md R213). -/
def Obligations.AbsentBuffersRefuse : Prop :=
  ∀ (s : State) (i : Instr),
    (s.rb.present = false →
      i.op ∈ [Op.rbFree, .rbPush, .rbPop, .rbReadBulk, .rbWriteBulk, .rbLen] →
      exec i s = .next (s.respond .noBuffer 0 [])) ∧
    (s.tb.present = false →
      i.op ∈ [Op.tbFree, .tbPush, .tbPop, .tbPeek, .tbReadBulk, .tbLen] →
      exec i s = .next (s.respond .noBuffer 0 []))

/-- RB.FREE, RB.LEN, TB.FREE and TB.LEN (41_ring_buffer.md R185, R190; 42_transfer_buffer.md R215,
R220). -/
def Obligations.BufferFreeAndLen : Prop :=
  ∀ s : State,
    Instr.rbFree.header = 0x11000000 ∧ Instr.rbLen.header = 0x16000000 ∧
    (s.rb.present = false → exec .rbFree s = .next (s.respond .noBuffer 0 []) ∧
      exec .rbLen s = .next (s.respond .noBuffer 0 [])) ∧
    (s.rb.present = true →
      exec .rbFree s = .next ({ s with rb := ⟨false, 0, 0, 0⟩ }.respond .ok 0 []) ∧
      exec .rbLen s = .next (s.respond .ok (BitVec.ofNat 16 s.rb.occ) [])) ∧
    (∀ ws : List Word, s.rbHolds ws → s.rb.occ = ws.length) ∧
    Instr.tbFree.header = 0x21000000 ∧ Instr.tbLen.header = 0x26000000 ∧
    (s.tb.present = false → exec .tbFree s = .next (s.respond .noBuffer 0 []) ∧
      exec .tbLen s = .next (s.respond .noBuffer 0 [])) ∧
    (s.tb.present = true →
      exec .tbFree s = .next ({ s with tb := ⟨false, 0, 0, 0⟩ }.respond .ok 0 []) ∧
      exec .tbLen s = .next (s.respond .ok (BitVec.ofNat 16 s.tb.occ) [])) ∧
    ∀ ts : List (Four Word), s.tbHolds ts → s.tb.occ = ts.length

/-- RB.PUSH: FULL, or the word at the tail, at `slot(w)`, and nowhere else (41_ring_buffer.md
R186). -/
def Obligations.RbPushAppends : Prop :=
  ∀ (s : State) (v : Word),
    (Instr.rbPush v).header = 0x12000000 ||| v.setWidth 32 ∧
    (s.rb.present = false → exec (.rbPush v) s = .next (s.respond .noBuffer 0 [])) ∧
    (∀ ws : List Word, s.rbHolds ws → ws.length = s.rb.cap →
      exec (.rbPush v) s = .next (s.respond .full 0 [])) ∧
    ∀ ws : List Word, s.rbHolds ws → ws.length < s.rb.cap →
      ∃ t, exec (.rbPush v) s = .next t ∧ t.rbHolds (ws ++ [v]) ∧
        t.rb = { s.rb with w := (s.rb.w + 1) % (2 * s.rb.cap) } ∧
        t.rbm.lookup (s.rb.slot s.rb.w) = some v ∧
        (∀ a, a ≠ s.rb.slot s.rb.w → t.rbm.lookup a = s.rbm.lookup a) ∧
        { t with rb := s.rb, rbm := s.rbm } = s.respond .ok 0 []

/-- RB.POP: EMPTY, or the oldest word, and nothing else changed (41_ring_buffer.md R187). -/
def Obligations.RbPopTakesOldest : Prop :=
  ∀ s : State,
    Instr.rbPop.header = 0x13000000 ∧
    (s.rb.present = false → exec .rbPop s = .next (s.respond .noBuffer 0 [])) ∧
    (s.rbHolds [] → exec .rbPop s = .next (s.respond .empty 0 [])) ∧
    ∀ (v : Word) (ws : List Word), s.rbHolds (v :: ws) →
      let t : State := { s with rb := { s.rb with r := (s.rb.r + 1) % (2 * s.rb.cap) } }
      exec .rbPop s = .next (t.respond .ok v []) ∧ t.rbHolds ws

/-- RB.READ_BULK: the first min(occ, n) words, in order (41_ring_buffer.md R188). -/
def Obligations.RbReadBulkTakesOldest : Prop :=
  ∀ (s : State) (n : Word),
    (Instr.rbReadBulk n).header = 0x14000000 ||| n.setWidth 32 ∧
    (s.rb.present = false → exec (.rbReadBulk n) s = .next (s.respond .noBuffer 0 [])) ∧
    ∀ ws : List Word, s.rbHolds ws →
      let k := min ws.length n.toNat
      let t : State := { s with rb := { s.rb with r := (s.rb.r + k) % (2 * s.rb.cap) } }
      exec (.rbReadBulk n) s = .next (t.respond .ok (BitVec.ofNat 16 k) (ws.take k)) ∧
        t.rbHolds (ws.drop k)

/-- RB.WRITE_BULK: the first min(n, C - occ) words appended, at the slots from `slot(w)` on, and
nothing else changed; the rest is dropped (41_ring_buffer.md R189). -/
def Obligations.RbWriteBulkAppends : Prop :=
  ∀ (s : State) (words : List Word),
    (words.length < 2 ^ 16 →
      (Instr.rbWriteBulk words).header = 0x15000000 ||| BitVec.ofNat 32 words.length ∧
      (Instr.rbWriteBulk words).payload = words) ∧
    (s.rb.present = false → exec (.rbWriteBulk words) s = .next (s.respond .noBuffer 0 [])) ∧
    ∀ ws : List Word, s.rbHolds ws →
      let k := min words.length (s.rb.cap - ws.length)
      ∃ t, exec (.rbWriteBulk words) s = .next t ∧ t.rbHolds (ws ++ words.take k) ∧
        t.rb = { s.rb with w := (s.rb.w + k) % (2 * s.rb.cap) } ∧
        (∀ a, a ∉ (List.range k).map (fun j => s.rb.slot (s.rb.w + j)) →
          t.rbm.lookup a = s.rbm.lookup a) ∧
        { t with rb := s.rb, rbm := s.rbm } = s.respond .ok (BitVec.ofNat 16 k) []

/-- FIFO order: over any commands on an empty buffer, the words accepted are the words returned, in
order, followed by the words still queued (41_ring_buffer.md R191). -/
def Obligations.RbIsFifo : Prop :=
  ∀ (s : State) (is : List Instr), s.cfg.wf → s.rbHolds [] →
    (∀ i ∈ is, i.op ∈ [Op.rbPush, .rbPop, .rbReadBulk, .rbWriteBulk, .rbLen]) →
    ∃ rs t rest, runCommands is s = some (rs, t) ∧ t.rbHolds rest ∧
      (List.zipWith rbAccepted is rs).flatten = (List.zipWith rbReturned is rs).flatten ++ rest

/-- The capacity law: of C + k pushes on an empty buffer exactly the first C succeed, and the pops
after them give exactly those C words, in order, and then EMPTY (41_ring_buffer.md R192). -/
def Obligations.RbCapacityLaw : Prop :=
  ∀ (s : State) (first more : List Word), s.rbHolds [] → first.length = s.rb.cap →
    ∃ t, runCommands ((first ++ more).map Instr.rbPush ++
        List.replicate (s.rb.cap + 1) Instr.rbPop) s =
      some (List.replicate s.rb.cap ⟨.ok, 0, []⟩ ++ List.replicate more.length ⟨.full, 0, []⟩ ++
        first.map (fun v => ⟨.ok, v, []⟩) ++ [⟨.empty, 0, []⟩], t)

/-! ### TB -/

/-- TB.PUSH: FULL, or the four words at the tail, lane p's at `addr(p, w)`, and nowhere else
(42_transfer_buffer.md R216). -/
def Obligations.TbPushAppends : Prop :=
  ∀ (s : State) (v : Four Word),
    (Instr.tbPush v).header = 0x22000000 ∧ (Instr.tbPush v).payload = v.toList ∧
    (s.tb.present = false → exec (.tbPush v) s = .next (s.respond .noBuffer 0 [])) ∧
    (∀ ts : List (Four Word), s.tbHolds ts → ts.length = s.tb.cap →
      exec (.tbPush v) s = .next (s.respond .full 0 [])) ∧
    ∀ ts : List (Four Word), s.tbHolds ts → ts.length < s.tb.cap →
      ∃ t, exec (.tbPush v) s = .next t ∧ t.tbHolds (ts ++ [v]) ∧
        t.tb = { s.tb with w := (s.tb.w + 1) % (2 * s.tb.cap) } ∧
        (∀ p, t.tbm.lookup (s.tb.laneAddr p s.tb.w) = some (v.get p)) ∧
        (∀ a, (∀ p, a ≠ s.tb.laneAddr p s.tb.w) → t.tbm.lookup a = s.tbm.lookup a) ∧
        { t with tb := s.tb, tbm := s.tbm } = s.respond .ok 0 []

/-- TB.POP and TB.PEEK: EMPTY, or the oldest tuple; only TB.POP consumes it (42_transfer_buffer.md
R217, R218). -/
def Obligations.TbPopAndPeek : Prop :=
  ∀ s : State,
    Instr.tbPop.header = 0x23000000 ∧ Instr.tbPeek.header = 0x24000000 ∧
    (s.tb.present = false → exec .tbPop s = .next (s.respond .noBuffer 0 []) ∧
      exec .tbPeek s = .next (s.respond .noBuffer 0 [])) ∧
    (s.tbHolds [] → exec .tbPop s = .next (s.respond .empty 0 []) ∧
      exec .tbPeek s = .next (s.respond .empty 0 [])) ∧
    ∀ (v : Four Word) (ts : List (Four Word)), s.tbHolds (v :: ts) →
      let t : State := { s with tb := { s.tb with r := (s.tb.r + 1) % (2 * s.tb.cap) } }
      exec .tbPop s = .next (t.respond .ok 0 [v.l0, v.l1, v.l2, v.l3]) ∧ t.tbHolds ts ∧
        exec .tbPeek s = .next (s.respond .ok 0 [v.l0, v.l1, v.l2, v.l3])

/-- TB.READ_BULK: slot p gets the first min(occ, L[p]) words of its lane, and the shared cursor
advances by the least of those counts (42_transfer_buffer.md R219). -/
def Obligations.TbReadBulkAdvancesByLeast : Prop :=
  ∀ (s : State) (l : Four Word),
    (Instr.tbReadBulk l).header = 0x25000000 ∧ (Instr.tbReadBulk l).payload = l.toList ∧
    (s.tb.present = false → exec (.tbReadBulk l) s = .next (s.respond .noBuffer 0 [])) ∧
    ∀ ts : List (Four Word), s.tbHolds ts →
      let n : Four Nat := l.map fun w => min ts.length w.toNat
      let t : State := { s with tb := { s.tb with r := (s.tb.r + n.least) % (2 * s.tb.cap) } }
      exec (.tbReadBulk l) s = .next (t.respond .ok 0 (bulkWords n (lanesTake n ts))) ∧
        t.tbHolds (ts.drop n.least)

/-- Per-lane FIFO and lockstep: over any commands on an empty buffer, each lane's accepted words are
its consumed words, in order, followed by its queued words, and the k-th of every lane come from one
push (42_transfer_buffer.md R221, R222). -/
def Obligations.TbIsLockstepFifo : Prop :=
  ∀ (s : State) (is : List Instr), s.tbHolds [] →
    (∀ i ∈ is, i.op ∈ [Op.tbPush, .tbPop, .tbPeek, .tbReadBulk, .tbLen]) →
    ∃ rs t rest, runCommands is s = some (rs, t) ∧ t.tbHolds rest ∧
      ∀ p : PlayerId, (List.zipWith tbAccepted is rs).flatten.map (fun v => v.get p) =
        (List.zipWith (tbConsumed p) is rs).flatten ++ rest.map (fun v => v.get p)

/-- The capacity law: of C + k pushes on an empty buffer exactly the first C succeed, and k answer
FULL (42_transfer_buffer.md R223). -/
def Obligations.TbCapacityLaw : Prop :=
  ∀ (s : State) (first more : List (Four Word)), s.tbHolds [] → first.length = s.tb.cap →
    ∃ t, runCommands ((first ++ more).map Instr.tbPush) s =
      some (List.replicate s.tb.cap ⟨.ok, 0, []⟩ ++ List.replicate more.length ⟨.full, 0, []⟩, t) ∧
      t.tbHolds first

/-! ### SM -/

/-- The preconditions. Of SM commands: NOT_OWNER while the session owns the handle, then
NOT_INITIALIZED for all but SM.INIT (40_transfer_state_machine.md R160). Of SC commands but SC.NEW:
NOT_ACTIVE outside ACTIVE (43_session.md R240). -/
def Obligations.CommandsCheckTheSession : Prop :=
  ∀ (s : State) (i : Instr),
    (i.op ∈ [Op.smInit, .smStart, .smReady, .smUnready, .smStatus, .smId, .smSend, .smRecv,
        .smDiscover, .smRole] →
      ((s.scState = .iddisc ∨ s.scState = .active) →
        exec i s = .next (s.respond .notOwner 0 [])) ∧
      (s.ownsHandle → s.smInited = false → i.op ≠ .smInit →
        exec i s = .next (s.respond .notInitialized 0 []))) ∧
    (i.op ∈ [Op.scQueueSend, .scTick, .scReadBulk, .scReadAll, .scSkipEmpty, .scId, .scBlock,
        .scLeave] →
      s.scState ≠ .active → exec i s = .next (s.respond .notActive 0 []))

/-- SM.INIT: multiplayer mode at the rate; then FAILED_OKAY_CHECK with the register writes kept, or
the role, the rate and the handle latched (40_transfer_state_machine.md R150). -/
def Obligations.SmInitEntersMultiplayer : Prop :=
  ∀ (s : State) (rate : BaudRate) (e1 e2 e3 e4 : Env),
    allTurns .fg [e1, e2, e3, e4] → s.isr = .idle → s.ownsHandle →
    (Instr.smInit rate).header = 0x01000000 ||| (rate.setWidth 32 <<< 16) ∧
    ∃ (t : State) (v : Bool), exec (.smInit rate) s = .next t ∧ s.idValidKept v ∧
      (s.errAfterEntry s.env e2 = true →
        play [e1, e2, e3] t = .next ((s.inMulti rate true v e3).respond .failedOkayCheck 0 [])) ∧
      (s.errAfterEntry s.env e2 = false →
        let u : State :=
          { s.inMulti rate false v e4 with
            smRole := s.cfg.roleHw, smRate := rate, smInited := true }
        play [e1, e2, e3, e4] t =
          .next (u.respond .ok (if s.cfg.roleHw = .parent then 0 else 1) []))

/-- SM.READY: multiplayer mode at the latched rate, no start and no ERR draw unless the mode changes
(40_transfer_state_machine.md R152). -/
def Obligations.SmReadyEntersMultiplayer : Prop :=
  ∀ (s : State) (e1 e2 : Env),
    allTurns .fg [e1, e2] → s.isr = .idle → s.ownsHandle → s.smInited = true →
    Instr.smReady.header = 0x03000000 ∧
    ∃ t v, exec .smReady s = .next t ∧ s.idValidKept v ∧
      play [e1, e2] t =
        .next ((s.inMulti s.smRate (s.errAfterEntry s.env e2) v e2).respond .ok 0 [])

/-- SM.UNREADY: RCNT takes ALT_RCNT, so the mode is OTHER; id_valid is cleared, in OTHER mode too
(log 32), and a transfer in progress is abandoned only if the mode was multiplayer and LINK draws so
(40_transfer_state_machine.md R153, 20_memory.md R88). -/
def Obligations.SmUnreadyLeavesMultiplayer : Prop :=
  ∀ s : State, s.ownsHandle → s.smInited = true → s.cfg.altRcnt[15] = true →
    Instr.smUnready.header = 0x04000000 ∧
    ∃ t, exec .smUnready s = .next t ∧ ¬ t.multi ∧ t.flagSd = false ∧ t.flagBusy = false ∧
      t.idValid = false ∧
      (¬ (s.busyNow ∧ s.env.abandon = true) →
        t = { s with rcnt := s.cfg.altRcnt, idValid := false }.respond .ok 0 []) ∧
      (s.busyNow → s.env.abandon = true →
        t = { s with
          rcnt := s.cfg.altRcnt, idValid := false, xferActive := false,
          recv := s.env.words }.respond .ok 0 [])

/-- SM.START: ALREADY_IN_PROGRESS with nothing written; else a parent's start write, whose effect
stays whatever follows, then FAILED_READY_CHECK, FAILED_OKAY_CHECK or OK; a child writes nothing
(40_transfer_state_machine.md R151). -/
def Obligations.SmStartChecksAndStarts : Prop :=
  ∀ (s : State) (e1 e2 e3 e4 : Env),
    allTurns .fg [e1, e2, e3, e4] → s.isr = .idle → s.ownsHandle → s.smInited = true →
    Instr.smStart.header = 0x02000000 ∧
    (s.busyNow → exec .smStart s = .next (s.respond .alreadyInProgress 0 [])) ∧
    (¬ s.busyNow → s.smRole = .parent → ∃ t, exec .smStart s = .next t ∧
      (¬ s.readyUnder e3 → play [e1, e2, e3] t =
        .next ({ s.afterStartWrite e2 with env := e3 }.respond .failedReadyCheck 0 [])) ∧
      (s.readyUnder e3 → play [e1, e2, e3, e4] t =
        .next ({ s.afterStartWrite e2 with env := e4 }.respond
          (if s.sio.err = true then .failedOkayCheck else .ok) 0 []))) ∧
    (¬ s.busyNow → s.smRole = .child → ∃ t, exec .smStart s = .next t ∧
      (¬ s.readyUnder e1 → play [e1] t =
        .next ({ s with env := e1 }.respond .failedReadyCheck 0 [])) ∧
      (s.readyUnder e1 → play [e1, e2] t =
        .next ({ s with env := e2 }.respond
          (if s.sio.err = true then .failedOkayCheck else .ok) 0 [])))

/-- SM.ROLE, SM.ID, SM.SEND and SM.RECV, each one access and nothing else changed
(40_transfer_state_machine.md R154, R156, R157, R158). -/
def Obligations.SmSingleAccesses : Prop :=
  ∀ (s : State) (w : Word) (slot : PlayerId), s.ownsHandle → s.smInited = true →
    Instr.smRole.header = 0x0A000000 ∧ Instr.smId.header = 0x06000000 ∧
    (Instr.smSend w).header = 0x07000000 ||| w.setWidth 32 ∧
    (Instr.smRecv slot).header = 0x08000000 ||| BitVec.ofNat 32 (slot.toNat * 0x10000) ∧
    exec .smRole s = .next (s.respond .ok (if s.smRole = .parent then 0 else 1) []) ∧
    (∃ id : BitVec 2, exec .smId s = .next (s.respond .ok (id.setWidth 16) []) ∧
      (s.multi → s.idValid = true → id = BitVec.ofNat 2 s.cfg.posHw.toNat) ∧
      (¬ (s.multi ∧ s.idValid = true) → id = s.env.garbage.extractLsb' 4 2)) ∧
    exec (.smSend w) s = .next ({ s with send := w }.respond .ok 0 []) ∧
    exec (.smRecv slot) s = .next (s.respond .ok (s.recv.get slot) [])

/-- SM.STATUS: the packed VALUE, bit by bit, and nothing else changed; outside multiplayer mode SI, SD,
ID and ERR are draws (40_transfer_state_machine.md R155, 10_state.md R34; SD: log 13). -/
def Obligations.SmStatusPacksFlags : Prop :=
  ∀ (s : State) (e : Env),
    e.turn = .fg → s.isr = .idle → s.ownsHandle → s.smInited = true →
    Instr.smStatus.header = 0x05000000 ∧
    ∃ t v, exec .smStatus s = .next t ∧
      play [e] t = .next ({ s with env := e }.respond .ok v []) ∧
      v[0] = s.flagSi ∧ (s.multi → v[1] = s.flagSd) ∧ (¬ s.multi → v[1] = s.env.garbage[3]) ∧
      v.extractLsb' 2 2 = s.flagId ∧ v[4] = s.flagErr ∧
      v[5] = s.flagBusy ∧ v[6] = decide s.multi ∧ v.extractLsb' 7 2 = s.sio.baud ∧
      v[9] = s.sio.irq ∧ v.extractLsb' 10 6 = 0

/-- The handshake before SM.DISCOVER's loop: unready, SEND = SENTINEL, ready, seen_complete = 0
(40_transfer_state_machine.md R159); for SC.NEW's discovery it is the same, from its own position
(43_session.md R241). R159 gives seen_complete <- 0 no atomic step: that the clear is one of its own, the
last of the six here, is the model's choice (log 36). That id_valid is 0 at the loop where the mode was
OTHER before is the model's reading (log 14 for the entry, log 32 for the write of ALT_RCNT). -/
def Obligations.DiscoveryHandshake : Prop :=
  ∀ (s : State) (e0 e1 e2 e3 e4 e5 : Env),
    allTurns .fg [e0, e1, e2, e3, e4, e5] → s.isr = .idle → s.cfg.altRcnt[15] = true →
    let dropped : Prop := s.multi ∧ s.xferActive = true ∧ e0.abandon = true
    let atLoop (c : SmCaller) : State :=
      { s.inMulti s.smRate (if s.sio.mode = 2 then e2.err else e4.err) false e5 with
        send         := sentinel
        seenComplete := false
        xferActive   := if dropped then false else s.xferActive
        recv         := if dropped then e0.words else s.recv
        fg           := .startReadBusy (.discover c) }
    (s.env = e0 → s.ownsHandle → s.smInited = true →
      Instr.smDiscover.header = 0x09000000 ∧
      ∃ t, exec .smDiscover s = .next t ∧
        play [e1, e2, e3, e4, e5] t = .next (atLoop .command)) ∧
    ∀ l : NewLocals, s.fg = .discWriteUnready (.new l) →
      play [e0, e1, e2, e3, e4, e5] s = .next (atLoop (.new l))

/-- One attempt of the discovery loop: a busy link, a start, or an unready one goes on to the ID
read; ERR alone ends it, and ends SC.NEW with sc_state at its prior value
(40_transfer_state_machine.md R159, 43_session.md R241). -/
def Obligations.DiscoveryAttempt : Prop :=
  ∀ (s : State) (c : SmCaller) (e1 e2 e3 e4 e5 : Env),
    allTurns .fg [e1, e2, e3, e4, e5] → s.isr = .idle → s.fg = .startReadBusy (.discover c) →
    let failed (u : State) : State :=
      match c with
      | .command => u.respond .failedOkayCheck 0 []
      | .new l => { u with scState := l.prior }.respond .failedOkayCheck 0 []
    (s.busyNow → play [e1] s = .next ({ s with env := e1 }.goto (.discReadId c))) ∧
    (¬ s.busyNow → s.smRole = .parent →
      (¬ s.readyUnder e4 → play [e1, e2, e3, e4] s =
        .next ({ s.afterStartWrite e3 with env := e4 }.goto (.discReadId c))) ∧
      (s.readyUnder e4 → s.sio.err = false → play [e1, e2, e3, e4, e5] s =
        .next ({ s.afterStartWrite e3 with env := e5 }.goto (.discReadId c))) ∧
      (s.readyUnder e4 → s.sio.err = true → play [e1, e2, e3, e4, e5] s =
        .next (failed { s.afterStartWrite e3 with env := e5 }))) ∧
    (¬ s.busyNow → s.smRole = .child →
      (¬ s.readyUnder e2 → play [e1, e2] s =
        .next ({ s with env := e2 }.goto (.discReadId c))) ∧
      (s.readyUnder e2 → s.sio.err = false → play [e1, e2, e3] s =
        .next ({ s with env := e3 }.goto (.discReadId c))) ∧
      (s.readyUnder e2 → s.sio.err = true → play [e1, e2, e3] s =
        .next (failed { s with env := e3 })))

/-- The exit of the discovery loop. The ID read without a completion since the handshake began: the loop
goes round. With one, and SENTINEL in the RECV of that ID: SM.DISCOVER answers the ID and SC.NEW goes on
to its allocation; else the loop goes round (40_transfer_state_machine.md R159). In a state of the
invariant the ID of the second case is POS_HW, so a parent answers 0. That seen_complete is tested with
the ID read is the model's reading (log 18). -/
def Obligations.DiscoveryExit : Prop :=
  ∀ (s : State) (c : SmCaller) (e1 e2 : Env),
    allTurns .fg [e1, e2] → s.isr = .idle → s.fg = .discReadId c →
    (s.seenComplete = false →
      play [e1] s = .next ({ s with env := e1 }.goto (.startReadBusy (.discover c)))) ∧
    (s.seenComplete = true → ∃ id : BitVec 2,
      (s.multi → s.idValid = true → id = BitVec.ofNat 2 s.cfg.posHw.toNat) ∧
      (¬ (s.multi ∧ s.idValid = true) → id = e1.garbage.extractLsb' 4 2) ∧
      (s.Inv → s.cfg.config = .session → id = BitVec.ofNat 2 s.cfg.posHw.toNat) ∧
      let found : Prop := s.recv.get (PlayerId.ofBits id) = sentinel
      (found → c = .command →
        play [e1, e2] s = .next ({ s with env := e2 }.respond .ok (id.setWidth 16) [])) ∧
      (found → ∀ l, c = .new l →
        play [e1, e2] s = .next ({ s with env := e2 }.goto (.newInstall l id))) ∧
      (¬ found →
        play [e1, e2] s = .next ({ s with env := e2 }.goto (.startReadBusy (.discover c)))))

/-! ### SC -/

/-- SC.NEW up to its discovery: the singleton check, the capacity check, then sc_state = IDDISC and
SM.INIT's body; on FAILED_OKAY_CHECK the register writes remain and sc_state is back at its prior
value (43_session.md R241). -/
def Obligations.ScNewOpens : Prop :=
  ∀ (s : State) (rate : BaudRate) (cap : Word),
    (Instr.scNew rate cap).header =
      0x30000000 ||| (rate.setWidth 32 <<< 16) ||| cap.setWidth 32 ∧
    ((s.rb.present = true ∨ s.tb.present = true) →
      exec (.scNew rate cap) s = .next (s.respond .alreadyInitialized 0 [])) ∧
    (s.rb.present = false → s.tb.present = false → (cap = 0 ∨ s.cfg.capMax < cap.toNat) →
      exec (.scNew rate cap) s = .next (s.respond .invalidCapacity 0 [])) ∧
    (s.rb.present = false → s.tb.present = false → cap ≠ 0 → cap.toNat ≤ s.cfg.capMax →
      s.ownsHandle → s.isr = .idle →
      ∀ e1 e2 e3 e4 : Env, allTurns .fg [e1, e2, e3, e4] →
      ∃ t v, exec (.scNew rate cap) s = .next t ∧ t.scState = .iddisc ∧ s.idValidKept v ∧
        (s.errAfterEntry s.env e2 = true →
          play [e1, e2, e3] t = .next ((s.inMulti rate true v e3).respond .failedOkayCheck 0 [])) ∧
        (s.errAfterEntry s.env e2 = false →
          play [e1, e2, e3, e4] t =
            .next ({ s.inMulti rate false v e4 with
              smRole := s.cfg.roleHw, smRate := rate, smInited := true,
              scState := .iddisc }.goto (.discWriteUnready (.new ⟨s.scState, rate, cap⟩)))))

/-- SC.NEW after its discovery: both buffers empty at the capacity, block_flag = 0, the handler
installed, IRQ = 1, the ID and the rate, ACTIVE (43_session.md R241). -/
def Obligations.ScNewActivates : Prop :=
  ∀ (s : State) (l : NewLocals) (id : BitVec 2) (e1 e2 e3 : Env),
    allTurns .fg [e1, e2, e3] → s.isr = .idle → s.fg = .newInstall l id →
    s.rb.present = false → s.tb.present = false → capacityLegal s.cfg l.cap →
    let t : State :=
      { s with
        rb           := ⟨true, l.cap.toNat, 0, 0⟩
        tb           := ⟨true, l.cap.toNat, 0, 0⟩
        blockFlag    := false
        isrInstalled := true
        sio          := { s.sio with irq := true }
        scId         := PlayerId.ofBits id
        scRate       := l.rate
        scState      := .active
        env          := e3 }
    play [e1, e2, e3] s = .next (t.respond .ok (id.setWidth 16) []) ∧ t.rbHolds [] ∧ t.tbHolds []

/-- SC.QUEUE_SEND: the words that fit are appended to RB in one critical section; then the readiness
re-assert, even for none; VALUE is the count (43_session.md R242). -/
def Obligations.ScQueueSendAppendsAndReadies : Prop :=
  ∀ (s : State) (words ws : List Word) (e1 e2 e3 : Env),
    allTurns .fg [e1, e2, e3] → s.isr = .idle → s.scState = .active → s.rbHolds ws →
    let k := min words.length (s.rb.cap - ws.length)
    (words.length < 2 ^ 16 →
      (Instr.scQueueSend words).header = 0x31000000 ||| BitVec.ofNat 32 words.length ∧
      (Instr.scQueueSend words).payload = words) ∧
    ∃ t v, exec (.scQueueSend words) s = .next t ∧ t.rbHolds (ws ++ words.take k) ∧
      t.rb = { s.rb with w := (s.rb.w + k) % (2 * s.rb.cap) } ∧
      (∀ a, a ∉ (List.range k).map (fun j => s.rb.slot (s.rb.w + j)) →
        t.rbm.lookup a = s.rbm.lookup a) ∧
      { t with rb := s.rb, rbm := s.rbm, fg := s.fg } = s ∧ s.idValidKept v ∧
      play [e1, e2, e3] t =
        .next (({ s with rb := t.rb, rbm := t.rbm }.inMulti s.smRate (s.errAfterEntry e1 e3) v
          e3).respond .ok (BitVec.ofNat 16 k) [])

/-- SC.TICK: sm_start_core, whose FAILED_OKAY_CHECK alone is a failure; ALREADY_IN_PROGRESS and
FAILED_READY_CHECK are OK with VALUE 1 and 2 (43_session.md R243). -/
def Obligations.ScTickStarts : Prop :=
  ∀ (s : State) (e1 e2 e3 e4 : Env),
    allTurns .fg [e1, e2, e3, e4] → s.isr = .idle → s.scState = .active →
    Instr.scTick.header = 0x32000000 ∧
    (s.busyNow → exec .scTick s = .next (s.respond .ok 1 [])) ∧
    (¬ s.busyNow → s.smRole = .parent → ∃ t, exec .scTick s = .next t ∧
      (¬ s.readyUnder e3 → play [e1, e2, e3] t =
        .next ({ s.afterStartWrite e2 with env := e3 }.respond .ok 2 [])) ∧
      (s.readyUnder e3 → play [e1, e2, e3, e4] t =
        .next ({ s.afterStartWrite e2 with env := e4 }.respond
          (if s.sio.err = true then .failedOkayCheck else .ok) 0 []))) ∧
    (¬ s.busyNow → s.smRole = .child → ∃ t, exec .scTick s = .next t ∧
      (¬ s.readyUnder e1 → play [e1] t = .next ({ s with env := e1 }.respond .ok 2 [])) ∧
      (s.readyUnder e1 → play [e1, e2] t =
        .next ({ s with env := e2 }.respond
          (if s.sio.err = true then .failedOkayCheck else .ok) 0 [])))

/-- SC.READ_BULK, as TB.READ_BULK (43_session.md R244). -/
def Obligations.ScReadBulkAdvancesByLeast : Prop :=
  ∀ (s : State) (l : Four Word) (ts : List (Four Word)),
    (Instr.scReadBulk l).header = 0x33000000 ∧ (Instr.scReadBulk l).payload = l.toList ∧
    (s.scState ≠ .active → exec (.scReadBulk l) s = .next (s.respond .notActive 0 [])) ∧
    (s.scState = .active → s.tbHolds ts →
      let n : Four Nat := l.map fun w => min ts.length w.toNat
      let t : State := { s with tb := { s.tb with r := (s.tb.r + n.least) % (2 * s.tb.cap) } }
      exec (.scReadBulk l) s = .next (t.respond .ok 0 (bulkWords n (lanesTake n ts))) ∧
        t.tbHolds (ts.drop n.least))

/-- SC.READ_ALL's first round: MISMATCHED_LENGTHS; all the tuples asked for, where they are queued
(none asked for included); else every queued tuple kept, and the re-tick (43_session.md R245). -/
def Obligations.ScReadAllFirstRound : Prop :=
  ∀ (s : State) (l : Four Word), s.scState = .active →
    (Instr.scReadAll l).header = 0x34000000 ∧ (Instr.scReadAll l).payload = l.toList ∧
    (¬ (l.l0 = l.l1 ∧ l.l1 = l.l2 ∧ l.l2 = l.l3) →
      exec (.scReadAll l) s = .next (s.respond .mismatchedLengths 0 [])) ∧
    ∀ (n : Word) (ts : List (Four Word)), l = ⟨n, n, n, n⟩ → s.tbHolds ts →
      let k := min ts.length n.toNat
      let got : Four (List Word) := lanesTake ⟨k, k, k, k⟩ ts
      let t : State := { s with tb := { s.tb with r := (s.tb.r + k) % (2 * s.tb.cap) } }
      t.tbHolds (ts.drop k) ∧
      (n.toNat ≤ ts.length → exec (.scReadAll l) s =
        .next (t.respond .ok 0 (bulkWords ⟨k, k, k, k⟩ got))) ∧
      (ts.length < n.toNat → exec (.scReadAll l) s =
        .next (t.goto (.startReadBusy (.readAll ⟨n.toNat, k, got⟩))))

/-- SC.READ_ALL's later rounds: the re-tick finds the link busy, or starts a transfer as SM.START does;
its FAILED_OKAY_CHECK ends the command with the partial counts and data, its other outcomes lead to the
next read; a read that fills the outputs ends it, another re-ticks (43_session.md R245;
40_transfer_state_machine.md R151). -/
def Obligations.ScReadAllLaterRounds : Prop :=
  ∀ (s : State) (l : ReadAllLocals), s.env.turn = .fg → s.isr = .idle → l.filled < l.len →
    let failed (u : State) : State := u.respond .failedOkayCheck 0
      (bulkWords ⟨l.filled, l.filled, l.filled, l.filled⟩ l.out)
    (∀ e1 e2 e3 e4 e5 : Env, allTurns .fg [e1, e2, e3, e4, e5] →
      s.fg = .startReadBusy (.readAll l) → ¬ s.busyNow →
      (s.smRole = .parent →
        (¬ s.readyUnder e4 → play [e1, e2, e3, e4] s =
          .next ({ s.afterStartWrite e3 with env := e4 }.goto (.readAllRead l))) ∧
        (s.readyUnder e4 → s.sio.err = false → play [e1, e2, e3, e4, e5] s =
          .next ({ s.afterStartWrite e3 with env := e5 }.goto (.readAllRead l))) ∧
        (s.readyUnder e4 → s.sio.err = true → play [e1, e2, e3, e4, e5] s =
          .next (failed { s.afterStartWrite e3 with env := e5 }))) ∧
      (s.smRole = .child →
        (¬ s.readyUnder e2 → play [e1, e2] s =
          .next ({ s with env := e2 }.goto (.readAllRead l))) ∧
        (s.readyUnder e2 → s.sio.err = false → play [e1, e2, e3] s =
          .next ({ s with env := e3 }.goto (.readAllRead l))) ∧
        (s.readyUnder e2 → s.sio.err = true → play [e1, e2, e3] s =
          .next (failed { s with env := e3 })))) ∧
    (s.fg = .startReadBusy (.readAll l) → s.busyNow →
      agentStep s = .next (s.goto (.readAllRead l))) ∧
    (s.fg = .startReadReady (.readAll l) → ¬ s.readyUnder s.env →
      agentStep s = .next (s.goto (.readAllRead l))) ∧
    (s.fg = .startReadReady (.readAll l) → s.readyUnder s.env →
      agentStep s = .next (s.goto (.startReadErr (.readAll l)))) ∧
    (s.fg = .startReadErr (.readAll l) → s.multi → s.sio.err = false →
      agentStep s = .next (s.goto (.readAllRead l))) ∧
    (s.fg = .startReadErr (.readAll l) → s.multi → s.sio.err = true →
      agentStep s = .next (failed s)) ∧
    ∀ ts : List (Four Word), s.fg = .readAllRead l → s.tbHolds ts →
      let k := min ts.length (l.len - l.filled)
      let got : Four (List Word) := l.out.zip (· ++ ·) (lanesTake ⟨k, k, k, k⟩ ts)
      let t : State := { s with tb := { s.tb with r := (s.tb.r + k) % (2 * s.tb.cap) } }
      t.tbHolds (ts.drop k) ∧
      (l.filled + k = l.len → agentStep s =
        .next (t.respond .ok 0 (bulkWords ⟨l.len, l.len, l.len, l.len⟩ got))) ∧
      (l.filled + k < l.len → agentStep s =
        .next (t.goto (.startReadBusy (.readAll ⟨l.len, l.filled + k, got⟩))))

/-- SC.SKIP_EMPTY: exactly the leading tuples without peer data are discarded, and VALUE counts them
(43_session.md R246). -/
def Obligations.ScSkipEmptyDropsLeadingEmpties : Prop :=
  ∀ (s : State) (ts : List (Four Word)) (es : List Env),
    s.isr = .idle → s.scState = .active → s.tbHolds ts →
    let k := (ts.takeWhile fun t => decide (emptyTransfer s.scId t)).length
    allTurns .fg es → es.length = 2 * k →
    Instr.scSkipEmpty.header = 0x35000000 ∧
    ∃ t u, exec .scSkipEmpty s = .next t ∧ play es t = .next u ∧ u.tbHolds (ts.drop k) ∧
      u.tb.r = (s.tb.r + k) % (2 * s.tb.cap) ∧ u.tb.w = s.tb.w ∧
      { u with tb := s.tb, env := s.env } = s.respond .ok (BitVec.ofNat 16 k) []

/-- SC.ID and SC.BLOCK (43_session.md R247, R248). -/
def Obligations.ScIdAndBlock : Prop :=
  ∀ (s : State) (flag : Bool),
    Instr.scId.header = 0x36000000 ∧ (Instr.scBlock false).header = 0x37000000 ∧
    (Instr.scBlock true).header = 0x37010000 ∧
    (s.scState ≠ .active → exec .scId s = .next (s.respond .notActive 0 []) ∧
      exec (.scBlock flag) s = .next (s.respond .notActive 0 [])) ∧
    (s.scState = .active →
      exec .scId s = .next (s.respond .ok (BitVec.ofNat 16 s.scId.toNat) []) ∧
      exec (.scBlock flag) s = .next ({ s with blockFlag := flag }.respond .ok 0 []))

/-- SC.LEAVE: IRQ = 0, then no handler, no buffers, LEFT; everything else is kept, the SM handle,
block_flag, a transfer in progress and a pending interrupt among it (43_session.md R249). -/
def Obligations.ScLeaveTearsDown : Prop :=
  ∀ (s : State) (e1 e2 : Env),
    allTurns .fg [e1, e2] → s.isr = .idle →
    Instr.scLeave.header = 0x38000000 ∧
    (s.scState ≠ .active → exec .scLeave s = .next (s.respond .notActive 0 [])) ∧
    (s.scState = .active → ∃ t, exec .scLeave s = .next t ∧
      play [e1, e2] t =
        .next ({ s with
          sio          := { s.sio with irq := false }
          isrInstalled := false
          rb           := ⟨false, 0, 0, 0⟩
          tb           := ⟨false, 0, 0, 0⟩
          scState      := .left
          env          := e2 }.respond .ok 0 []))

/-- The session state machine: these are the only ways a step changes sc_state (43_session.md
R250). -/
def Obligations.SessionStateMachine : Prop :=
  ∀ s t : State, s.Inv → step s = .next t →
    t.scState = s.scState ∨
    ((s.scState = .uninit ∨ s.scState = .left) ∧ t.scState = .iddisc ∧
      ∃ l rate, t.fg = .initReadSio (.new l) rate ∧ l.prior = s.scState) ∨
    (s.scState = .iddisc ∧ t.scState = .active ∧ ∃ l id v, s.fg = .newWriteSio l id v) ∨
    (s.scState = .iddisc ∧ t.resp = some ⟨.failedOkayCheck, 0, []⟩ ∧
      ∃ l, s.fg.newLocals = some l ∧ t.scState = l.prior ∧
        (l.prior = .uninit ∨ l.prior = .left)) ∨
    (s.scState = .active ∧ t.scState = .left ∧ s.fg = .leaveTeardown)

/-- While a session is ACTIVE both buffers are present, and every SC.NEW answers ALREADY_INITIALIZED
and touches nothing (43_session.md R251). -/
def Obligations.AtMostOneSession : Prop :=
  ∀ s : State, s.Inv → s.scState = .active →
    s.rb.present = true ∧ s.tb.present = true ∧
      ∀ (rate : BaudRate) (cap : Word),
        exec (.scNew rate cap) s = .next (s.respond .alreadyInitialized 0 [])

/-! ### The interrupt -/

/-- A run of ISR.XFER_DONE with no LINK step inside it: the tuple read is appended to TB unless it is
all SENTINEL or TB is full; RB gives one word to SEND, or SEND takes SENTINEL and, under the block
policy, the unit goes unready, with id_valid 0 and a transfer in progress abandoned only if LINK draws
so in that last step; then the handler has returned (44_interrupt_handler.md R280, 20_memory.md R88). That id_valid is 0 where
the mode was OTHER before is the model's reading (log 32). -/
def Obligations.HandlerRun : Prop :=
  ∀ (s : State) (ws : List Word) (ts : List (Four Word)) (es : List Env),
    s.cfg.altRcnt[15] = true → s.rbHolds ws → s.tbHolds ts →
    let pushes : Prop := ¬ allSentinel s.recv ∧ ts.length < s.tb.cap
    let unreadies : Prop := ws = [] ∧ s.blockFlag = true
    allTurns .isr es →
    es.length = 3 + (if allSentinel s.recv then 0 else 1) + 2 + (if unreadies then 1 else 0) →
    Instr.isrXferDone.header = 0x40000000 ∧
    ∃ t u, exec .isrXferDone s = .next t ∧ play es t = .next u ∧ u.isr = .idle ∧
      u.tbHolds (if pushes then ts ++ [s.recv] else ts) ∧ u.rbHolds ws.tail ∧
      u.send = ws.headD sentinel ∧ u.rcnt = (if unreadies then s.cfg.altRcnt else s.rcnt) ∧
      (¬ unreadies → u.idValid = s.idValid ∧ u.xferActive = s.xferActive ∧ u.recv = s.recv) ∧
      (unreadies → u.idValid = false ∧ ∀ e, es.getLast? = some e →
        let dropped : Prop := s.busyNow ∧ e.abandon = true
        u.xferActive = (if dropped then false else s.xferActive) ∧
          u.recv = (if dropped then e.words else s.recv)) ∧
      u.rbm = s.rbm ∧ u.tb.r = s.tb.r ∧ u.rb.w = s.rb.w ∧
      (¬ pushes → u.tbm = s.tbm) ∧
      (∀ a, (∀ p, a ≠ s.tb.laneAddr p s.tb.w) → u.tbm.lookup a = s.tbm.lookup a) ∧
      { u with
        rb := s.rb, tb := s.tb, tbm := s.tbm, send := s.send, rcnt := s.rcnt, isr := s.isr,
        idValid := s.idValid, xferActive := s.xferActive, recv := s.recv, env := s.env } = s

/-- Taking the interrupt clears irq_pending; with a handler installed the handler runs next, else
nothing else changes; FG's position and locals stand as they were; with none pending nothing is taken
(60_exceptions.md R310, R312). While the handler runs it excludes FG and does not nest: FG's turn
changes nothing, no interrupt is taken, and a completion only sets irq_pending (R311, R314). In a run
with a weakly fair interrupt agent a pending interrupt is taken (R313; that fairness covers a running
handler's own steps is the model's reading, log 33). -/
def Obligations.InterruptTaken : Prop :=
  (∀ s : State, s.env.turn = .isr → s.irqPending = false → s.isr = .idle →
    agentStep s = .next s) ∧
  (∀ s : State, s.env.turn = .isr → s.irqPending = true → s.isr = .idle →
    (s.isrInstalled = true →
      agentStep s = .next { s with irqPending := false, isr := .entered }) ∧
    (s.isrInstalled = false → agentStep s = .next { s with irqPending := false })) ∧
  (∀ s t : State, s.isr ≠ .idle → agentStep s = .next t →
    (s.env.turn = .fg → t = s) ∧
    (s.env.turn = .isr → t.irqPending = s.irqPending ∧ t.fg = s.fg ∧ t.resp = s.resp) ∧
    (s.env.turn = .linkComplete → t.isr = s.isr ∧
      (s.xferActive = true → s.sio.irq = true → t.irqPending = true))) ∧
  ∀ run : Nat → State, IsRun run → WeaklyFair run → ∀ n, (run n).irqPending = true →
    ∃ m, n ≤ m ∧ (run m).takesInterrupt

/-! ### LINK -/

/-- A start request, and a transfer's begin: a parent's by the write, with SD = 1 or by LINK's draw;
a child's by the remote parent's start (20_memory.md R90, R91). -/
def Obligations.TransferBegin : Prop :=
  (∀ (s : State) (v : Word), s.sio.store v = s.sio →
    (v[7] = false → s.writeSiocnt v = s) ∧
    (v[7] = true → s.multi → s.cfg.roleHw = .parent → s.xferActive = false →
      (s.flagSd = true ∨ s.env.race = true) →
      s.writeSiocnt v =
        { s with xferActive := true, sendLatch := s.send, recv := fourSentinels }) ∧
    (v[7] = true → s.multi → s.cfg.roleHw = .parent → s.xferActive = false →
      s.flagSd = false → s.env.race = false → s.writeSiocnt v = s) ∧
    (v[7] = true → ¬ (s.multi ∧ s.cfg.roleHw = .parent ∧ s.xferActive = false) →
      s.writeSiocnt v = s)) ∧
  ∀ s : State, s.env.turn = .linkBegin → s.cfg.roleHw = .child → s.multi → s.xferActive = false →
    agentStep s =
      .next { s with xferActive := true, sendLatch := s.send, recv := fourSentinels }

/-- A transfer's completion, in one atomic step (20_memory.md R92). -/
def Obligations.TransferCompletion : Prop :=
  ∀ s : State, s.env.turn = .linkComplete → s.xferActive = true →
    ∃ t, agentStep s = .next t ∧
      t.recv.get s.cfg.posHw = s.sendLatch ∧
      (∀ q, q ≠ s.cfg.posHw → s.cfg.present.get q = true → t.recv.get q = s.env.words.get q) ∧
      (∀ q, q ≠ s.cfg.posHw → s.cfg.present.get q = false → t.recv.get q = sentinel) ∧
      { t with recv := s.recv } =
        { s with
          xferActive   := false
          idValid      := true
          seenComplete := true
          sio          := { s.sio with err := s.env.err }
          irqPending   := if s.sio.irq = true then true else s.irqPending }

/-- Two completions before the interrupt is taken leave irq_pending at 1, one taking of it leaves it
at 0, and the handler then reads the later transfer's words (60_exceptions.md R309). -/
def Obligations.CompletionsCoalesce : Prop :=
  ∀ (s : State) (e1 e2 e3 e4 e5 : Env),
    s.sio.irq = true → s.isr = .idle → s.isrInstalled = true → s.irqPending = true →
    s.multi → s.cfg.roleHw = .child → s.xferActive = false →
    [e1, e2, e3, e4, e5].map Env.turn = [.linkBegin, .linkComplete, .isr, .isr, .isr] →
    ∃ t u, play [e1, e2] s = .next t ∧ t.irqPending = true ∧
      t.recv.get s.cfg.posHw = s.send ∧
      play [e3, e4, e5] t = .next u ∧ u.irqPending = false ∧ u.isr = .recv2 t.recv.l0 t.recv.l1

/-- A mode change's effects: an entry into multiplayer mode draws ERR, and id_valid keeps the value
0; a leave clears id_valid and drops readiness, and a transfer in progress goes on, or is abandoned
with drawn RECV words, by LINK's draw (20_memory.md R88). -/
def Obligations.ModeChange : Prop :=
  ∀ s : State,
    (¬ s.multi → s.sio.mode = 2 → s.idValid = false →
      s.writeRcnt 0 = { s with rcnt := 0, sio := { s.sio with err := s.env.err } } ∧
      (s.writeRcnt 0).multi) ∧
    (¬ s.multi → s.rcnt = 0 → s.idValid = false → ∀ v : Word, v.extractLsb' 12 2 = 2 →
      v[7] = false →
      s.writeSiocnt v = { s with sio := { s.sio.store v with err := s.env.err } } ∧
      (s.writeSiocnt v).multi) ∧
    (s.multi → s.cfg.altRcnt[15] = true →
      let t := s.writeRcnt s.cfg.altRcnt
      ¬ t.multi ∧ t.localReady = false ∧ t.idValid = false ∧
      (s.xferActive = false ∨ s.env.abandon = false →
        t = { s with rcnt := s.cfg.altRcnt, idValid := false }) ∧
      (s.xferActive = true → s.env.abandon = true →
        t = { s with
          rcnt := s.cfg.altRcnt, idValid := false, xferActive := false, recv := s.env.words }))

/-- What a read of SIOCNT returns, bit by bit: in multiplayer mode SI is ROLE_HW, SD all-ready, ID
POS_HW once valid, ERR and BUSY as they stand; in OTHER mode BUSY is 0 and SI, SD, ID and ERR are
draws, while the flag SD that the ready check and the start write see is 0 there (10_state.md R34;
20_memory.md R93 to R96; SD: log 13; the unused bits: log 12). -/
def Obligations.SiocntReads : Prop :=
  ∀ s : State,
    let v := s.siocntRead
    v.extractLsb' 0 2 = s.sio.baud ∧ v.extractLsb' 8 4 = s.sio.unusedLo ∧
    v.extractLsb' 12 2 = s.sio.mode ∧ v[14] = s.sio.irq ∧ v[15] = s.sio.unusedHi ∧
    s.flagSd = (s.localReady && s.env.peersReady) ∧
    (s.multi → v[3] = s.env.peersReady ∧ v[2] = decide (s.cfg.posHw ≠ .p0) ∧
      v[6] = s.sio.err ∧ v[7] = s.xferActive ∧
      (s.idValid = true → v.extractLsb' 4 2 = BitVec.ofNat 2 s.cfg.posHw.toNat) ∧
      (s.idValid = false → v.extractLsb' 4 2 = s.env.garbage.extractLsb' 4 2)) ∧
    (¬ s.multi → s.flagSd = false ∧ v[3] = s.env.garbage[3] ∧ v[2] = s.env.garbage[2] ∧
      v[6] = s.env.garbage[6] ∧ v[7] = false ∧ v.extractLsb' 4 2 = s.env.garbage.extractLsb' 4 2)

/-- Only a unit with ROLE_HW = PARENT starts a transfer by itself: a transfer begins in a step only by
a parent's start write, or on a child by LINK (60_exceptions.md R321, 20_memory.md R91). -/
def Obligations.OnlyParentStarts : Prop :=
  ∀ s t : State, step s = .next t → s.xferActive = false → t.xferActive = true →
    t.multi ∧ t.recv = fourSentinels ∧ t.sendLatch = s.send ∧
    ((s.env.turn = .fg ∧ s.cfg.roleHw = .parent ∧ ∃ c v, s.fg = .startWriteSio c v) ∨
      (s.env.turn = .linkBegin ∧ s.cfg.roleHw = .child))

/-- What each agent's steps leave alone: the writers of each piece of state (10_state.md R52), and in a
session FG's side of the buffers and of SEND (20_memory.md R105, R106). -/
def Obligations.AgentsKeepTheirParts : Prop :=
  ∀ s t : State, agentStep s = .next t →
    t.cfg = s.cfg ∧ t.env = s.env ∧ t.tick = s.tick ∧
    (s.env.turn = .fg → t.isr = s.isr ∧ t.irqPending = s.irqPending) ∧
    (s.env.turn = .fg → s.Inv → s.cfg.config = .session →
      (s.scState = .active → s.fg ≠ .leaveTeardown →
        t.rb.r = s.rb.r ∧ t.tb.w = s.tb.w ∧ t.tbm = s.tbm) ∧
      (s.isrInstalled = true → t.send = s.send)) ∧
    (s.env.turn = .isr → s.cfg.altRcnt[15] = true →
      t.sio = s.sio ∧ t.seenComplete = s.seenComplete ∧ t.sendLatch = s.sendLatch ∧
      t.smInited = s.smInited ∧ t.smRate = s.smRate ∧ t.smRole = s.smRole ∧ t.rbm = s.rbm ∧
      t.rb.w = s.rb.w ∧ t.tb.r = s.tb.r ∧ t.scState = s.scState ∧ t.scId = s.scId ∧
      t.scRate = s.scRate ∧ t.blockFlag = s.blockFlag ∧ t.isrInstalled = s.isrInstalled ∧
      t.fg = s.fg ∧ t.port = s.port ∧ t.resp = s.resp) ∧
    (s.env.turn = .linkBegin ∨ s.env.turn = .linkComplete →
      { t with
        recv := s.recv, xferActive := s.xferActive, sendLatch := s.sendLatch,
        idValid := s.idValid, irqPending := s.irqPending, seenComplete := s.seenComplete,
        sio := { t.sio with err := s.sio.err } } = s)

/-- On a byte-addressed bus, only an aligned 16-bit access at one of the seven offsets reaches a link
register, and a read of each readable one gives that register (20_memory.md R83, R84). That a bus read
of SEND and a bus write of RECV0 to RECV3 are refused is the model's choice: 10_state.md R37 says only
that the BTC makes no such access (log 22). -/
def Obligations.BusReachesSevenRegisters : Prop :=
  ∀ (s : State) (addr : BitVec 32) (width : Nat),
    ((∃ v, s.busRead addr width = .ok v) →
      width = 16 ∧ (addr - s.cfg.lrBase).toNat ∈ [0x120, 0x122, 0x124, 0x126, 0x128, 0x134]) ∧
    (∀ v t, s.busWrite addr width v = .ok t →
      width = 16 ∧ (addr - s.cfg.lrBase).toNat ∈ [0x128, 0x12A, 0x134]) ∧
    (width ≠ 16 → s.busRead addr width = .error .lrWidth) ∧
    (width = 16 → (addr - s.cfg.lrBase).toNat % 2 = 1 →
      s.busRead addr width = .error .lrMisaligned) ∧
    s.busRead (s.cfg.lrBase + 0x120) 16 = .ok s.recv.l0 ∧
    s.busRead (s.cfg.lrBase + 0x122) 16 = .ok s.recv.l1 ∧
    s.busRead (s.cfg.lrBase + 0x124) 16 = .ok s.recv.l2 ∧
    s.busRead (s.cfg.lrBase + 0x126) 16 = .ok s.recv.l3 ∧
    s.busRead (s.cfg.lrBase + 0x128) 16 = .ok s.siocntRead ∧
    s.busRead (s.cfg.lrBase + 0x134) 16 = .ok s.rcnt ∧
    ∀ v : Word,
      s.busWrite (s.cfg.lrBase + 0x12A) 16 v = .ok { s with send := v } ∧
      s.busWrite (s.cfg.lrBase + 0x128) 16 v = .ok (s.writeSiocnt v) ∧
      s.busWrite (s.cfg.lrBase + 0x134) 16 v = .ok (s.writeRcnt v)

/-- On a cable, a completion reaches every unit. While no precondition of the protocol is broken, RECVq
of every unit is unit q's latched word, or SENTINEL where the slot holds no unit (60_exceptions.md R325,
R326); once one is broken, the peer words are whatever each unit draws (20_memory.md R97, 10_state.md
R35). That one move completes the transfer on every unit at once is the model's choice, and so is which
mismatch of the rates breaks the precondition (log 24). -/
def Obligations.CableCompletionAgrees : Prop :=
  ∀ (c : Cable) (errs : Four Bool) (words : Four (Four Word)),
    c.wf → (∀ u ∈ c.units, u.xferActive = true) →
    let broken : Prop := c.broken = true ∨ ¬ c.ratesMatch
    ∃ d, c.move (.complete errs words) = some d ∧ d.positions = c.positions ∧
      (d.broken = true ↔ broken) ∧
      ∀ u ∈ d.units, u.xferActive = false ∧ u.idValid = true ∧
        u.sio.err = errs.get u.cfg.posHw ∧
        (∀ w ∈ c.units, w.cfg.posHw = u.cfg.posHw → u.recv.get w.cfg.posHw = w.sendLatch) ∧
        (∀ q, q ∉ c.positions → u.recv.get q = sentinel) ∧
        (¬ broken → ∀ w ∈ c.units, u.recv.get w.cfg.posHw = w.sendLatch) ∧
        (broken → ∀ q ∈ c.positions, q ≠ u.cfg.posHw →
          u.recv.get q = (words.get u.cfg.posHw).get q)

end
end

