-- ==== Sys2Proof/Laws/State.lean ====
section
/-! SUPPORT. One lemma per field per named update of State, all true by unfolding. -/

namespace Sys2Proof.Machine

variable (s : State)

@[simp] theorem State.answer_eq (st : Status) : s.answer st = s.respond st 0 [] := rfl

/-! ### respond -/

@[simp] theorem State.respond_rcnt (st : Status) (v : Word) (ws : List Word) : (s.respond st v ws).rcnt = s.rcnt := rfl
@[simp] theorem State.respond_sio (st : Status) (v : Word) (ws : List Word) : (s.respond st v ws).sio = s.sio := rfl
@[simp] theorem State.respond_send (st : Status) (v : Word) (ws : List Word) : (s.respond st v ws).send = s.send := rfl
@[simp] theorem State.respond_recv (st : Status) (v : Word) (ws : List Word) : (s.respond st v ws).recv = s.recv := rfl
@[simp] theorem State.respond_xferActive (st : Status) (v : Word) (ws : List Word) : (s.respond st v ws).xferActive = s.xferActive := rfl
@[simp] theorem State.respond_sendLatch (st : Status) (v : Word) (ws : List Word) : (s.respond st v ws).sendLatch = s.sendLatch := rfl
@[simp] theorem State.respond_idValid (st : Status) (v : Word) (ws : List Word) : (s.respond st v ws).idValid = s.idValid := rfl
@[simp] theorem State.respond_irqPending (st : Status) (v : Word) (ws : List Word) : (s.respond st v ws).irqPending = s.irqPending := rfl
@[simp] theorem State.respond_seenComplete (st : Status) (v : Word) (ws : List Word) : (s.respond st v ws).seenComplete = s.seenComplete := rfl
@[simp] theorem State.respond_smInited (st : Status) (v : Word) (ws : List Word) : (s.respond st v ws).smInited = s.smInited := rfl
@[simp] theorem State.respond_smRate (st : Status) (v : Word) (ws : List Word) : (s.respond st v ws).smRate = s.smRate := rfl
@[simp] theorem State.respond_smRole (st : Status) (v : Word) (ws : List Word) : (s.respond st v ws).smRole = s.smRole := rfl
@[simp] theorem State.respond_rb (st : Status) (v : Word) (ws : List Word) : (s.respond st v ws).rb = s.rb := rfl
@[simp] theorem State.respond_rbm (st : Status) (v : Word) (ws : List Word) : (s.respond st v ws).rbm = s.rbm := rfl
@[simp] theorem State.respond_tb (st : Status) (v : Word) (ws : List Word) : (s.respond st v ws).tb = s.tb := rfl
@[simp] theorem State.respond_tbm (st : Status) (v : Word) (ws : List Word) : (s.respond st v ws).tbm = s.tbm := rfl
@[simp] theorem State.respond_scState (st : Status) (v : Word) (ws : List Word) : (s.respond st v ws).scState = s.scState := rfl
@[simp] theorem State.respond_scId (st : Status) (v : Word) (ws : List Word) : (s.respond st v ws).scId = s.scId := rfl
@[simp] theorem State.respond_scRate (st : Status) (v : Word) (ws : List Word) : (s.respond st v ws).scRate = s.scRate := rfl
@[simp] theorem State.respond_blockFlag (st : Status) (v : Word) (ws : List Word) : (s.respond st v ws).blockFlag = s.blockFlag := rfl
@[simp] theorem State.respond_isrInstalled (st : Status) (v : Word) (ws : List Word) : (s.respond st v ws).isrInstalled = s.isrInstalled := rfl
@[simp] theorem State.respond_fg (st : Status) (v : Word) (ws : List Word) : (s.respond st v ws).fg = .idle := rfl
@[simp] theorem State.respond_isr (st : Status) (v : Word) (ws : List Word) : (s.respond st v ws).isr = s.isr := rfl
@[simp] theorem State.respond_port (st : Status) (v : Word) (ws : List Word) : (s.respond st v ws).port = s.port := rfl
@[simp] theorem State.respond_resp (st : Status) (v : Word) (ws : List Word) : (s.respond st v ws).resp = some ⟨st, v, ws⟩ := rfl
@[simp] theorem State.respond_cfg (st : Status) (v : Word) (ws : List Word) : (s.respond st v ws).cfg = s.cfg := rfl
@[simp] theorem State.respond_env (st : Status) (v : Word) (ws : List Word) : (s.respond st v ws).env = s.env := rfl
@[simp] theorem State.respond_tick (st : Status) (v : Word) (ws : List Word) : (s.respond st v ws).tick = s.tick := rfl

/-! ### goto -/

@[simp] theorem State.goto_rcnt (p : FgSeq) : (s.goto p).rcnt = s.rcnt := rfl
@[simp] theorem State.goto_sio (p : FgSeq) : (s.goto p).sio = s.sio := rfl
@[simp] theorem State.goto_send (p : FgSeq) : (s.goto p).send = s.send := rfl
@[simp] theorem State.goto_recv (p : FgSeq) : (s.goto p).recv = s.recv := rfl
@[simp] theorem State.goto_xferActive (p : FgSeq) : (s.goto p).xferActive = s.xferActive := rfl
@[simp] theorem State.goto_sendLatch (p : FgSeq) : (s.goto p).sendLatch = s.sendLatch := rfl
@[simp] theorem State.goto_idValid (p : FgSeq) : (s.goto p).idValid = s.idValid := rfl
@[simp] theorem State.goto_irqPending (p : FgSeq) : (s.goto p).irqPending = s.irqPending := rfl
@[simp] theorem State.goto_seenComplete (p : FgSeq) : (s.goto p).seenComplete = s.seenComplete := rfl
@[simp] theorem State.goto_smInited (p : FgSeq) : (s.goto p).smInited = s.smInited := rfl
@[simp] theorem State.goto_smRate (p : FgSeq) : (s.goto p).smRate = s.smRate := rfl
@[simp] theorem State.goto_smRole (p : FgSeq) : (s.goto p).smRole = s.smRole := rfl
@[simp] theorem State.goto_rb (p : FgSeq) : (s.goto p).rb = s.rb := rfl
@[simp] theorem State.goto_rbm (p : FgSeq) : (s.goto p).rbm = s.rbm := rfl
@[simp] theorem State.goto_tb (p : FgSeq) : (s.goto p).tb = s.tb := rfl
@[simp] theorem State.goto_tbm (p : FgSeq) : (s.goto p).tbm = s.tbm := rfl
@[simp] theorem State.goto_scState (p : FgSeq) : (s.goto p).scState = s.scState := rfl
@[simp] theorem State.goto_scId (p : FgSeq) : (s.goto p).scId = s.scId := rfl
@[simp] theorem State.goto_scRate (p : FgSeq) : (s.goto p).scRate = s.scRate := rfl
@[simp] theorem State.goto_blockFlag (p : FgSeq) : (s.goto p).blockFlag = s.blockFlag := rfl
@[simp] theorem State.goto_isrInstalled (p : FgSeq) : (s.goto p).isrInstalled = s.isrInstalled := rfl
@[simp] theorem State.goto_fg (p : FgSeq) : (s.goto p).fg = p := rfl
@[simp] theorem State.goto_isr (p : FgSeq) : (s.goto p).isr = s.isr := rfl
@[simp] theorem State.goto_port (p : FgSeq) : (s.goto p).port = s.port := rfl
@[simp] theorem State.goto_resp (p : FgSeq) : (s.goto p).resp = s.resp := rfl
@[simp] theorem State.goto_cfg (p : FgSeq) : (s.goto p).cfg = s.cfg := rfl
@[simp] theorem State.goto_env (p : FgSeq) : (s.goto p).env = s.env := rfl
@[simp] theorem State.goto_tick (p : FgSeq) : (s.goto p).tick = s.tick := rfl

/-! ### take -/

@[simp] theorem State.take_rcnt (rest : List Word) : (s.take rest).rcnt = s.rcnt := rfl
@[simp] theorem State.take_sio (rest : List Word) : (s.take rest).sio = s.sio := rfl
@[simp] theorem State.take_send (rest : List Word) : (s.take rest).send = s.send := rfl
@[simp] theorem State.take_recv (rest : List Word) : (s.take rest).recv = s.recv := rfl
@[simp] theorem State.take_xferActive (rest : List Word) : (s.take rest).xferActive = s.xferActive := rfl
@[simp] theorem State.take_sendLatch (rest : List Word) : (s.take rest).sendLatch = s.sendLatch := rfl
@[simp] theorem State.take_idValid (rest : List Word) : (s.take rest).idValid = s.idValid := rfl
@[simp] theorem State.take_irqPending (rest : List Word) : (s.take rest).irqPending = s.irqPending := rfl
@[simp] theorem State.take_seenComplete (rest : List Word) : (s.take rest).seenComplete = s.seenComplete := rfl
@[simp] theorem State.take_smInited (rest : List Word) : (s.take rest).smInited = s.smInited := rfl
@[simp] theorem State.take_smRate (rest : List Word) : (s.take rest).smRate = s.smRate := rfl
@[simp] theorem State.take_smRole (rest : List Word) : (s.take rest).smRole = s.smRole := rfl
@[simp] theorem State.take_rb (rest : List Word) : (s.take rest).rb = s.rb := rfl
@[simp] theorem State.take_rbm (rest : List Word) : (s.take rest).rbm = s.rbm := rfl
@[simp] theorem State.take_tb (rest : List Word) : (s.take rest).tb = s.tb := rfl
@[simp] theorem State.take_tbm (rest : List Word) : (s.take rest).tbm = s.tbm := rfl
@[simp] theorem State.take_scState (rest : List Word) : (s.take rest).scState = s.scState := rfl
@[simp] theorem State.take_scId (rest : List Word) : (s.take rest).scId = s.scId := rfl
@[simp] theorem State.take_scRate (rest : List Word) : (s.take rest).scRate = s.scRate := rfl
@[simp] theorem State.take_blockFlag (rest : List Word) : (s.take rest).blockFlag = s.blockFlag := rfl
@[simp] theorem State.take_isrInstalled (rest : List Word) : (s.take rest).isrInstalled = s.isrInstalled := rfl
@[simp] theorem State.take_fg (rest : List Word) : (s.take rest).fg = s.fg := rfl
@[simp] theorem State.take_isr (rest : List Word) : (s.take rest).isr = s.isr := rfl
@[simp] theorem State.take_port (rest : List Word) : (s.take rest).port = rest := rfl
@[simp] theorem State.take_resp (rest : List Word) : (s.take rest).resp = none := rfl
@[simp] theorem State.take_cfg (rest : List Word) : (s.take rest).cfg = s.cfg := rfl
@[simp] theorem State.take_env (rest : List Word) : (s.take rest).env = s.env := rfl
@[simp] theorem State.take_tick (rest : List Word) : (s.take rest).tick = s.tick := rfl

/-! ### fgSends -/

@[simp] theorem State.fgSends_rcnt (words : List Word) : (s.fgSends words).rcnt = s.rcnt := rfl
@[simp] theorem State.fgSends_sio (words : List Word) : (s.fgSends words).sio = s.sio := rfl
@[simp] theorem State.fgSends_send (words : List Word) : (s.fgSends words).send = s.send := rfl
@[simp] theorem State.fgSends_recv (words : List Word) : (s.fgSends words).recv = s.recv := rfl
@[simp] theorem State.fgSends_xferActive (words : List Word) : (s.fgSends words).xferActive = s.xferActive := rfl
@[simp] theorem State.fgSends_sendLatch (words : List Word) : (s.fgSends words).sendLatch = s.sendLatch := rfl
@[simp] theorem State.fgSends_idValid (words : List Word) : (s.fgSends words).idValid = s.idValid := rfl
@[simp] theorem State.fgSends_irqPending (words : List Word) : (s.fgSends words).irqPending = s.irqPending := rfl
@[simp] theorem State.fgSends_seenComplete (words : List Word) : (s.fgSends words).seenComplete = s.seenComplete := rfl
@[simp] theorem State.fgSends_smInited (words : List Word) : (s.fgSends words).smInited = s.smInited := rfl
@[simp] theorem State.fgSends_smRate (words : List Word) : (s.fgSends words).smRate = s.smRate := rfl
@[simp] theorem State.fgSends_smRole (words : List Word) : (s.fgSends words).smRole = s.smRole := rfl
@[simp] theorem State.fgSends_rb (words : List Word) : (s.fgSends words).rb = s.rb := rfl
@[simp] theorem State.fgSends_rbm (words : List Word) : (s.fgSends words).rbm = s.rbm := rfl
@[simp] theorem State.fgSends_tb (words : List Word) : (s.fgSends words).tb = s.tb := rfl
@[simp] theorem State.fgSends_tbm (words : List Word) : (s.fgSends words).tbm = s.tbm := rfl
@[simp] theorem State.fgSends_scState (words : List Word) : (s.fgSends words).scState = s.scState := rfl
@[simp] theorem State.fgSends_scId (words : List Word) : (s.fgSends words).scId = s.scId := rfl
@[simp] theorem State.fgSends_scRate (words : List Word) : (s.fgSends words).scRate = s.scRate := rfl
@[simp] theorem State.fgSends_blockFlag (words : List Word) : (s.fgSends words).blockFlag = s.blockFlag := rfl
@[simp] theorem State.fgSends_isrInstalled (words : List Word) : (s.fgSends words).isrInstalled = s.isrInstalled := rfl
@[simp] theorem State.fgSends_fg (words : List Word) : (s.fgSends words).fg = s.fg := rfl
@[simp] theorem State.fgSends_isr (words : List Word) : (s.fgSends words).isr = s.isr := rfl
@[simp] theorem State.fgSends_port (words : List Word) : (s.fgSends words).port = s.port ++ words := rfl
@[simp] theorem State.fgSends_resp (words : List Word) : (s.fgSends words).resp = s.resp := rfl
@[simp] theorem State.fgSends_cfg (words : List Word) : (s.fgSends words).cfg = s.cfg := rfl
@[simp] theorem State.fgSends_env (words : List Word) : (s.fgSends words).env = s.env := rfl
@[simp] theorem State.fgSends_tick (words : List Word) : (s.fgSends words).tick = s.tick := rfl

/-! ### redraw -/

@[simp] theorem State.redraw_rcnt : (s.redraw).rcnt = s.rcnt := rfl
@[simp] theorem State.redraw_sio : (s.redraw).sio = s.sio := rfl
@[simp] theorem State.redraw_send : (s.redraw).send = s.send := rfl
@[simp] theorem State.redraw_recv : (s.redraw).recv = s.recv := rfl
@[simp] theorem State.redraw_xferActive : (s.redraw).xferActive = s.xferActive := rfl
@[simp] theorem State.redraw_sendLatch : (s.redraw).sendLatch = s.sendLatch := rfl
@[simp] theorem State.redraw_idValid : (s.redraw).idValid = s.idValid := rfl
@[simp] theorem State.redraw_irqPending : (s.redraw).irqPending = s.irqPending := rfl
@[simp] theorem State.redraw_seenComplete : (s.redraw).seenComplete = s.seenComplete := rfl
@[simp] theorem State.redraw_smInited : (s.redraw).smInited = s.smInited := rfl
@[simp] theorem State.redraw_smRate : (s.redraw).smRate = s.smRate := rfl
@[simp] theorem State.redraw_smRole : (s.redraw).smRole = s.smRole := rfl
@[simp] theorem State.redraw_rb : (s.redraw).rb = s.rb := rfl
@[simp] theorem State.redraw_rbm : (s.redraw).rbm = s.rbm := rfl
@[simp] theorem State.redraw_tb : (s.redraw).tb = s.tb := rfl
@[simp] theorem State.redraw_tbm : (s.redraw).tbm = s.tbm := rfl
@[simp] theorem State.redraw_scState : (s.redraw).scState = s.scState := rfl
@[simp] theorem State.redraw_scId : (s.redraw).scId = s.scId := rfl
@[simp] theorem State.redraw_scRate : (s.redraw).scRate = s.scRate := rfl
@[simp] theorem State.redraw_blockFlag : (s.redraw).blockFlag = s.blockFlag := rfl
@[simp] theorem State.redraw_isrInstalled : (s.redraw).isrInstalled = s.isrInstalled := rfl
@[simp] theorem State.redraw_fg : (s.redraw).fg = s.fg := rfl
@[simp] theorem State.redraw_isr : (s.redraw).isr = s.isr := rfl
@[simp] theorem State.redraw_port : (s.redraw).port = s.port := rfl
@[simp] theorem State.redraw_resp : (s.redraw).resp = s.resp := rfl
@[simp] theorem State.redraw_cfg : (s.redraw).cfg = s.cfg := rfl
@[simp] theorem State.redraw_env : (s.redraw).env = Config.draws s.tick := rfl
@[simp] theorem State.redraw_tick : (s.redraw).tick = s.tick + 1 := rfl

/-! ### writeSend -/

@[simp] theorem State.writeSend_rcnt (v : Word) : (s.writeSend v).rcnt = s.rcnt := rfl
@[simp] theorem State.writeSend_sio (v : Word) : (s.writeSend v).sio = s.sio := rfl
@[simp] theorem State.writeSend_send (v : Word) : (s.writeSend v).send = v := rfl
@[simp] theorem State.writeSend_recv (v : Word) : (s.writeSend v).recv = s.recv := rfl
@[simp] theorem State.writeSend_xferActive (v : Word) : (s.writeSend v).xferActive = s.xferActive := rfl
@[simp] theorem State.writeSend_sendLatch (v : Word) : (s.writeSend v).sendLatch = s.sendLatch := rfl
@[simp] theorem State.writeSend_idValid (v : Word) : (s.writeSend v).idValid = s.idValid := rfl
@[simp] theorem State.writeSend_irqPending (v : Word) : (s.writeSend v).irqPending = s.irqPending := rfl
@[simp] theorem State.writeSend_seenComplete (v : Word) : (s.writeSend v).seenComplete = s.seenComplete := rfl
@[simp] theorem State.writeSend_smInited (v : Word) : (s.writeSend v).smInited = s.smInited := rfl
@[simp] theorem State.writeSend_smRate (v : Word) : (s.writeSend v).smRate = s.smRate := rfl
@[simp] theorem State.writeSend_smRole (v : Word) : (s.writeSend v).smRole = s.smRole := rfl
@[simp] theorem State.writeSend_rb (v : Word) : (s.writeSend v).rb = s.rb := rfl
@[simp] theorem State.writeSend_rbm (v : Word) : (s.writeSend v).rbm = s.rbm := rfl
@[simp] theorem State.writeSend_tb (v : Word) : (s.writeSend v).tb = s.tb := rfl
@[simp] theorem State.writeSend_tbm (v : Word) : (s.writeSend v).tbm = s.tbm := rfl
@[simp] theorem State.writeSend_scState (v : Word) : (s.writeSend v).scState = s.scState := rfl
@[simp] theorem State.writeSend_scId (v : Word) : (s.writeSend v).scId = s.scId := rfl
@[simp] theorem State.writeSend_scRate (v : Word) : (s.writeSend v).scRate = s.scRate := rfl
@[simp] theorem State.writeSend_blockFlag (v : Word) : (s.writeSend v).blockFlag = s.blockFlag := rfl
@[simp] theorem State.writeSend_isrInstalled (v : Word) : (s.writeSend v).isrInstalled = s.isrInstalled := rfl
@[simp] theorem State.writeSend_fg (v : Word) : (s.writeSend v).fg = s.fg := rfl
@[simp] theorem State.writeSend_isr (v : Word) : (s.writeSend v).isr = s.isr := rfl
@[simp] theorem State.writeSend_port (v : Word) : (s.writeSend v).port = s.port := rfl
@[simp] theorem State.writeSend_resp (v : Word) : (s.writeSend v).resp = s.resp := rfl
@[simp] theorem State.writeSend_cfg (v : Word) : (s.writeSend v).cfg = s.cfg := rfl
@[simp] theorem State.writeSend_env (v : Word) : (s.writeSend v).env = s.env := rfl
@[simp] theorem State.writeSend_tick (v : Word) : (s.writeSend v).tick = s.tick := rfl

/-! ### beginTransfer -/

@[simp] theorem State.beginTransfer_rcnt : (s.beginTransfer).rcnt = s.rcnt := rfl
@[simp] theorem State.beginTransfer_sio : (s.beginTransfer).sio = s.sio := rfl
@[simp] theorem State.beginTransfer_send : (s.beginTransfer).send = s.send := rfl
@[simp] theorem State.beginTransfer_recv : (s.beginTransfer).recv = ⟨sentinel, sentinel, sentinel, sentinel⟩ := rfl
@[simp] theorem State.beginTransfer_xferActive : (s.beginTransfer).xferActive = true := rfl
@[simp] theorem State.beginTransfer_sendLatch : (s.beginTransfer).sendLatch = s.send := rfl
@[simp] theorem State.beginTransfer_idValid : (s.beginTransfer).idValid = s.idValid := rfl
@[simp] theorem State.beginTransfer_irqPending : (s.beginTransfer).irqPending = s.irqPending := rfl
@[simp] theorem State.beginTransfer_seenComplete : (s.beginTransfer).seenComplete = s.seenComplete := rfl
@[simp] theorem State.beginTransfer_smInited : (s.beginTransfer).smInited = s.smInited := rfl
@[simp] theorem State.beginTransfer_smRate : (s.beginTransfer).smRate = s.smRate := rfl
@[simp] theorem State.beginTransfer_smRole : (s.beginTransfer).smRole = s.smRole := rfl
@[simp] theorem State.beginTransfer_rb : (s.beginTransfer).rb = s.rb := rfl
@[simp] theorem State.beginTransfer_rbm : (s.beginTransfer).rbm = s.rbm := rfl
@[simp] theorem State.beginTransfer_tb : (s.beginTransfer).tb = s.tb := rfl
@[simp] theorem State.beginTransfer_tbm : (s.beginTransfer).tbm = s.tbm := rfl
@[simp] theorem State.beginTransfer_scState : (s.beginTransfer).scState = s.scState := rfl
@[simp] theorem State.beginTransfer_scId : (s.beginTransfer).scId = s.scId := rfl
@[simp] theorem State.beginTransfer_scRate : (s.beginTransfer).scRate = s.scRate := rfl
@[simp] theorem State.beginTransfer_blockFlag : (s.beginTransfer).blockFlag = s.blockFlag := rfl
@[simp] theorem State.beginTransfer_isrInstalled : (s.beginTransfer).isrInstalled = s.isrInstalled := rfl
@[simp] theorem State.beginTransfer_fg : (s.beginTransfer).fg = s.fg := rfl
@[simp] theorem State.beginTransfer_isr : (s.beginTransfer).isr = s.isr := rfl
@[simp] theorem State.beginTransfer_port : (s.beginTransfer).port = s.port := rfl
@[simp] theorem State.beginTransfer_resp : (s.beginTransfer).resp = s.resp := rfl
@[simp] theorem State.beginTransfer_cfg : (s.beginTransfer).cfg = s.cfg := rfl
@[simp] theorem State.beginTransfer_env : (s.beginTransfer).env = s.env := rfl
@[simp] theorem State.beginTransfer_tick : (s.beginTransfer).tick = s.tick := rfl

/-! ### completeTransfer -/

@[simp] theorem State.completeTransfer_rcnt : (s.completeTransfer).rcnt = s.rcnt := rfl
@[simp] theorem State.completeTransfer_sio : (s.completeTransfer).sio = { s.sio with err := s.env.err } := rfl
@[simp] theorem State.completeTransfer_send : (s.completeTransfer).send = s.send := rfl
@[simp] theorem State.completeTransfer_recv : (s.completeTransfer).recv = Four.ofFn s.completionWord := rfl
@[simp] theorem State.completeTransfer_xferActive : (s.completeTransfer).xferActive = false := rfl
@[simp] theorem State.completeTransfer_sendLatch : (s.completeTransfer).sendLatch = s.sendLatch := rfl
@[simp] theorem State.completeTransfer_idValid : (s.completeTransfer).idValid = true := rfl
@[simp] theorem State.completeTransfer_irqPending : (s.completeTransfer).irqPending = (s.irqPending || s.sio.irq) := rfl
@[simp] theorem State.completeTransfer_seenComplete : (s.completeTransfer).seenComplete = true := rfl
@[simp] theorem State.completeTransfer_smInited : (s.completeTransfer).smInited = s.smInited := rfl
@[simp] theorem State.completeTransfer_smRate : (s.completeTransfer).smRate = s.smRate := rfl
@[simp] theorem State.completeTransfer_smRole : (s.completeTransfer).smRole = s.smRole := rfl
@[simp] theorem State.completeTransfer_rb : (s.completeTransfer).rb = s.rb := rfl
@[simp] theorem State.completeTransfer_rbm : (s.completeTransfer).rbm = s.rbm := rfl
@[simp] theorem State.completeTransfer_tb : (s.completeTransfer).tb = s.tb := rfl
@[simp] theorem State.completeTransfer_tbm : (s.completeTransfer).tbm = s.tbm := rfl
@[simp] theorem State.completeTransfer_scState : (s.completeTransfer).scState = s.scState := rfl
@[simp] theorem State.completeTransfer_scId : (s.completeTransfer).scId = s.scId := rfl
@[simp] theorem State.completeTransfer_scRate : (s.completeTransfer).scRate = s.scRate := rfl
@[simp] theorem State.completeTransfer_blockFlag : (s.completeTransfer).blockFlag = s.blockFlag := rfl
@[simp] theorem State.completeTransfer_isrInstalled : (s.completeTransfer).isrInstalled = s.isrInstalled := rfl
@[simp] theorem State.completeTransfer_fg : (s.completeTransfer).fg = s.fg := rfl
@[simp] theorem State.completeTransfer_isr : (s.completeTransfer).isr = s.isr := rfl
@[simp] theorem State.completeTransfer_port : (s.completeTransfer).port = s.port := rfl
@[simp] theorem State.completeTransfer_resp : (s.completeTransfer).resp = s.resp := rfl
@[simp] theorem State.completeTransfer_cfg : (s.completeTransfer).cfg = s.cfg := rfl
@[simp] theorem State.completeTransfer_env : (s.completeTransfer).env = s.env := rfl
@[simp] theorem State.completeTransfer_tick : (s.completeTransfer).tick = s.tick := rfl

/-! ### enterMulti -/

@[simp] theorem State.enterMulti_rcnt : (s.enterMulti).rcnt = s.rcnt := rfl
@[simp] theorem State.enterMulti_sio : (s.enterMulti).sio = { s.sio with err := s.env.err } := rfl
@[simp] theorem State.enterMulti_send : (s.enterMulti).send = s.send := rfl
@[simp] theorem State.enterMulti_recv : (s.enterMulti).recv = s.recv := rfl
@[simp] theorem State.enterMulti_xferActive : (s.enterMulti).xferActive = s.xferActive := rfl
@[simp] theorem State.enterMulti_sendLatch : (s.enterMulti).sendLatch = s.sendLatch := rfl
@[simp] theorem State.enterMulti_idValid : (s.enterMulti).idValid = false := rfl
@[simp] theorem State.enterMulti_irqPending : (s.enterMulti).irqPending = s.irqPending := rfl
@[simp] theorem State.enterMulti_seenComplete : (s.enterMulti).seenComplete = s.seenComplete := rfl
@[simp] theorem State.enterMulti_smInited : (s.enterMulti).smInited = s.smInited := rfl
@[simp] theorem State.enterMulti_smRate : (s.enterMulti).smRate = s.smRate := rfl
@[simp] theorem State.enterMulti_smRole : (s.enterMulti).smRole = s.smRole := rfl
@[simp] theorem State.enterMulti_rb : (s.enterMulti).rb = s.rb := rfl
@[simp] theorem State.enterMulti_rbm : (s.enterMulti).rbm = s.rbm := rfl
@[simp] theorem State.enterMulti_tb : (s.enterMulti).tb = s.tb := rfl
@[simp] theorem State.enterMulti_tbm : (s.enterMulti).tbm = s.tbm := rfl
@[simp] theorem State.enterMulti_scState : (s.enterMulti).scState = s.scState := rfl
@[simp] theorem State.enterMulti_scId : (s.enterMulti).scId = s.scId := rfl
@[simp] theorem State.enterMulti_scRate : (s.enterMulti).scRate = s.scRate := rfl
@[simp] theorem State.enterMulti_blockFlag : (s.enterMulti).blockFlag = s.blockFlag := rfl
@[simp] theorem State.enterMulti_isrInstalled : (s.enterMulti).isrInstalled = s.isrInstalled := rfl
@[simp] theorem State.enterMulti_fg : (s.enterMulti).fg = s.fg := rfl
@[simp] theorem State.enterMulti_isr : (s.enterMulti).isr = s.isr := rfl
@[simp] theorem State.enterMulti_port : (s.enterMulti).port = s.port := rfl
@[simp] theorem State.enterMulti_resp : (s.enterMulti).resp = s.resp := rfl
@[simp] theorem State.enterMulti_cfg : (s.enterMulti).cfg = s.cfg := rfl
@[simp] theorem State.enterMulti_env : (s.enterMulti).env = s.env := rfl
@[simp] theorem State.enterMulti_tick : (s.enterMulti).tick = s.tick := rfl

/-! ### takeInterrupt -/

@[simp] theorem State.takeInterrupt_rcnt : (s.takeInterrupt).rcnt = s.rcnt := rfl
@[simp] theorem State.takeInterrupt_sio : (s.takeInterrupt).sio = s.sio := rfl
@[simp] theorem State.takeInterrupt_send : (s.takeInterrupt).send = s.send := rfl
@[simp] theorem State.takeInterrupt_recv : (s.takeInterrupt).recv = s.recv := rfl
@[simp] theorem State.takeInterrupt_xferActive : (s.takeInterrupt).xferActive = s.xferActive := rfl
@[simp] theorem State.takeInterrupt_sendLatch : (s.takeInterrupt).sendLatch = s.sendLatch := rfl
@[simp] theorem State.takeInterrupt_idValid : (s.takeInterrupt).idValid = s.idValid := rfl
@[simp] theorem State.takeInterrupt_irqPending : (s.takeInterrupt).irqPending = false := rfl
@[simp] theorem State.takeInterrupt_seenComplete : (s.takeInterrupt).seenComplete = s.seenComplete := rfl
@[simp] theorem State.takeInterrupt_smInited : (s.takeInterrupt).smInited = s.smInited := rfl
@[simp] theorem State.takeInterrupt_smRate : (s.takeInterrupt).smRate = s.smRate := rfl
@[simp] theorem State.takeInterrupt_smRole : (s.takeInterrupt).smRole = s.smRole := rfl
@[simp] theorem State.takeInterrupt_rb : (s.takeInterrupt).rb = s.rb := rfl
@[simp] theorem State.takeInterrupt_rbm : (s.takeInterrupt).rbm = s.rbm := rfl
@[simp] theorem State.takeInterrupt_tb : (s.takeInterrupt).tb = s.tb := rfl
@[simp] theorem State.takeInterrupt_tbm : (s.takeInterrupt).tbm = s.tbm := rfl
@[simp] theorem State.takeInterrupt_scState : (s.takeInterrupt).scState = s.scState := rfl
@[simp] theorem State.takeInterrupt_scId : (s.takeInterrupt).scId = s.scId := rfl
@[simp] theorem State.takeInterrupt_scRate : (s.takeInterrupt).scRate = s.scRate := rfl
@[simp] theorem State.takeInterrupt_blockFlag : (s.takeInterrupt).blockFlag = s.blockFlag := rfl
@[simp] theorem State.takeInterrupt_isrInstalled : (s.takeInterrupt).isrInstalled = s.isrInstalled := rfl
@[simp] theorem State.takeInterrupt_fg : (s.takeInterrupt).fg = s.fg := rfl
@[simp] theorem State.takeInterrupt_isr : (s.takeInterrupt).isr = if s.isrInstalled = true then .entered else s.isr := rfl
@[simp] theorem State.takeInterrupt_port : (s.takeInterrupt).port = s.port := rfl
@[simp] theorem State.takeInterrupt_resp : (s.takeInterrupt).resp = s.resp := rfl
@[simp] theorem State.takeInterrupt_cfg : (s.takeInterrupt).cfg = s.cfg := rfl
@[simp] theorem State.takeInterrupt_env : (s.takeInterrupt).env = s.env := rfl
@[simp] theorem State.takeInterrupt_tick : (s.takeInterrupt).tick = s.tick := rfl

/-! ### returnFromInterrupt -/

@[simp] theorem State.returnFromInterrupt_rcnt : (s.returnFromInterrupt).rcnt = s.rcnt := rfl
@[simp] theorem State.returnFromInterrupt_sio : (s.returnFromInterrupt).sio = s.sio := rfl
@[simp] theorem State.returnFromInterrupt_send : (s.returnFromInterrupt).send = s.send := rfl
@[simp] theorem State.returnFromInterrupt_recv : (s.returnFromInterrupt).recv = s.recv := rfl
@[simp] theorem State.returnFromInterrupt_xferActive : (s.returnFromInterrupt).xferActive = s.xferActive := rfl
@[simp] theorem State.returnFromInterrupt_sendLatch : (s.returnFromInterrupt).sendLatch = s.sendLatch := rfl
@[simp] theorem State.returnFromInterrupt_idValid : (s.returnFromInterrupt).idValid = s.idValid := rfl
@[simp] theorem State.returnFromInterrupt_irqPending : (s.returnFromInterrupt).irqPending = s.irqPending := rfl
@[simp] theorem State.returnFromInterrupt_seenComplete : (s.returnFromInterrupt).seenComplete = s.seenComplete := rfl
@[simp] theorem State.returnFromInterrupt_smInited : (s.returnFromInterrupt).smInited = s.smInited := rfl
@[simp] theorem State.returnFromInterrupt_smRate : (s.returnFromInterrupt).smRate = s.smRate := rfl
@[simp] theorem State.returnFromInterrupt_smRole : (s.returnFromInterrupt).smRole = s.smRole := rfl
@[simp] theorem State.returnFromInterrupt_rb : (s.returnFromInterrupt).rb = s.rb := rfl
@[simp] theorem State.returnFromInterrupt_rbm : (s.returnFromInterrupt).rbm = s.rbm := rfl
@[simp] theorem State.returnFromInterrupt_tb : (s.returnFromInterrupt).tb = s.tb := rfl
@[simp] theorem State.returnFromInterrupt_tbm : (s.returnFromInterrupt).tbm = s.tbm := rfl
@[simp] theorem State.returnFromInterrupt_scState : (s.returnFromInterrupt).scState = s.scState := rfl
@[simp] theorem State.returnFromInterrupt_scId : (s.returnFromInterrupt).scId = s.scId := rfl
@[simp] theorem State.returnFromInterrupt_scRate : (s.returnFromInterrupt).scRate = s.scRate := rfl
@[simp] theorem State.returnFromInterrupt_blockFlag : (s.returnFromInterrupt).blockFlag = s.blockFlag := rfl
@[simp] theorem State.returnFromInterrupt_isrInstalled : (s.returnFromInterrupt).isrInstalled = s.isrInstalled := rfl
@[simp] theorem State.returnFromInterrupt_fg : (s.returnFromInterrupt).fg = s.fg := rfl
@[simp] theorem State.returnFromInterrupt_isr : (s.returnFromInterrupt).isr = .idle := rfl
@[simp] theorem State.returnFromInterrupt_port : (s.returnFromInterrupt).port = s.port := rfl
@[simp] theorem State.returnFromInterrupt_resp : (s.returnFromInterrupt).resp = s.resp := rfl
@[simp] theorem State.returnFromInterrupt_cfg : (s.returnFromInterrupt).cfg = s.cfg := rfl
@[simp] theorem State.returnFromInterrupt_env : (s.returnFromInterrupt).env = s.env := rfl
@[simp] theorem State.returnFromInterrupt_tick : (s.returnFromInterrupt).tick = s.tick := rfl

end Sys2Proof.Machine
end

