-- ==== Sys2Proof/Laws/Memory.lean ====
section
/-! SUPPORT. The backing stores: what a write leaves, what a read answers, and that every operation
keeps the canonical form. -/

namespace Sys2Proof.Machine

/-- A read after a write gives the value written at its index, and what was there elsewhere. -/
theorem Memory.lookup_insert (m : Memory) (a b : Nat) (v : Word) :
    (m.insert a v).lookup b = if b = a then some v else m.lookup b := by
  induction m with
  | nil => simp [Memory.insert, Memory.lookup]
  | cons c m ih =>
    obtain ⟨k, u⟩ := c
    simp only [Memory.insert]
    split_ifs with h1 h2 <;> simp only [Memory.lookup, ih] <;> split_ifs <;> first | rfl | omega

@[simp] theorem Memory.lookup_insert_self (m : Memory) (a : Nat) (v : Word) :
    (m.insert a v).lookup a = some v := by simp [Memory.lookup_insert]

theorem Memory.lookup_insert_of_ne (m : Memory) {a b : Nat} (v : Word) (h : b ≠ a) :
    (m.insert a v).lookup b = m.lookup b := by simp [Memory.lookup_insert, h]

/-- The indices listed after a write. -/
theorem Memory.mem_insert_fst {m : Memory} {a : Nat} {v : Word} {c : Nat × Word}
    (h : c ∈ m.insert a v) : c.1 = a ∨ c ∈ m := by
  induction m with
  | nil => simp [Memory.insert] at h; simp [h]
  | cons d m ih =>
    obtain ⟨k, u⟩ := d
    simp only [Memory.insert] at h
    split_ifs at h <;> simp only [List.mem_cons] at h ⊢ <;> grind

/-- A write keeps the canonical form. -/
theorem Memory.wf_insert {m : Memory} (h : m.wf) (a : Nat) (v : Word) : (m.insert a v).wf := by
  induction m with
  | nil => simp [Memory.insert, Memory.wf]
  | cons d m ih =>
    obtain ⟨k, u⟩ := d
    simp only [Memory.wf, List.map_cons, List.pairwise_cons, List.mem_map, forall_exists_index,
      and_imp] at h
    obtain ⟨hk, hm⟩ := h
    simp only [Memory.insert]
    split_ifs with h1 h2
    · simp only [Memory.wf, List.map_cons, List.pairwise_cons, List.mem_cons, List.mem_map]
      refine ⟨?_, by rintro b ⟨c, hc, rfl⟩; exact hk _ c hc rfl, hm⟩
      rintro b (rfl | ⟨c, hc, rfl⟩)
      · exact h1
      · exact lt_trans h1 (hk _ c hc rfl)
    · subst h2
      simp only [Memory.wf, List.map_cons, List.pairwise_cons, List.mem_map]
      exact ⟨by rintro b ⟨c, hc, rfl⟩; exact hk _ c hc rfl, hm⟩
    · simp only [Memory.wf, List.map_cons, List.pairwise_cons, List.mem_map]
      refine ⟨?_, ih hm⟩
      rintro b ⟨c, hc, rfl⟩
      rcases Memory.mem_insert_fst hc with h3 | h3
      · omega
      · exact hk _ c h3 rfl

/-- What a read answers. -/
theorem Memory.read_eq_ok {size : Nat} {m : Memory} {a : Nat} {v : Word} :
    m.read size a = .ok v ↔ a < size ∧ m.lookup a = some v := by
  unfold Memory.read
  split_ifs with h
  · cases hl : m.lookup a <;> simp [h]
  · simp [h]

/-- What a write answers. -/
theorem Memory.write_eq_ok {size : Nat} {m m' : Memory} {a : Nat} {v : Word} :
    m.write size a v = .ok m' ↔ a < size ∧ m' = m.insert a v := by
  unfold Memory.write
  split_ifs with h <;> simp [h, eq_comm]

/-- A list of words read, one word at a time. -/
theorem Memory.readAll_cons_eq_ok {size : Nat} {m : Memory} {a : Nat} {as : List Nat}
    {vs : List Word} :
    m.readAll size (a :: as) = .ok vs ↔
      ∃ w ws, vs = w :: ws ∧ m.read size a = .ok w ∧ m.readAll size as = .ok ws := by
  simp only [Memory.readAll]
  cases m.read size a <;> cases m.readAll size as <;> simp [eq_comm]

/-- What reading several words answers. -/
theorem Memory.readAll_eq_ok {size : Nat} {m : Memory} {as : List Nat} {vs : List Word} :
    m.readAll size as = .ok vs ↔ (∀ a ∈ as, a < size) ∧ as.map m.lookup = vs.map some := by
  induction as generalizing vs with
  | nil => cases vs <;> simp [Memory.readAll]
  | cons a as ih =>
    rw [Memory.readAll_cons_eq_ok]
    simp only [ih, Memory.read_eq_ok, List.mem_cons, forall_eq_or_imp, List.map_cons]
    constructor
    · rintro ⟨w, ws, rfl, ⟨h1, h2⟩, h3, h4⟩
      simp [h1, h2, h4]
      exact h3
    · rintro ⟨⟨h1, h2⟩, h3⟩
      cases vs with
      | nil => simp at h3
      | cons w ws =>
        simp only [List.map_cons, List.cons.injEq] at h3
        exact ⟨w, ws, rfl, ⟨h1, h3.1⟩, h2, h3.2⟩

end Sys2Proof.Machine
end

