-- ==== Sys2Proof/Laws/Queue.lean ====
section
/-! SUPPORT. Cursor arithmetic (41_ring_buffer.md R180, R181; 42_transfer_buffer.md R210): what a
push and a pop do to the occupancy, and where the queued words stand. -/

namespace Sys2Proof.Machine

variable {capMax : Nat} {q : Queue}

@[simp] theorem Queue.pushed_present (q : Queue) : q.pushed.present = q.present := rfl
@[simp] theorem Queue.pushed_cap (q : Queue) : q.pushed.cap = q.cap := rfl
@[simp] theorem Queue.pushed_r (q : Queue) : q.pushed.r = q.r := rfl
@[simp] theorem Queue.pushed_w (q : Queue) : q.pushed.w = q.adv q.w 1 := rfl
@[simp] theorem Queue.popped_present (q : Queue) (k : Nat) : (q.popped k).present = q.present := rfl
@[simp] theorem Queue.popped_cap (q : Queue) (k : Nat) : (q.popped k).cap = q.cap := rfl
@[simp] theorem Queue.popped_r (q : Queue) (k : Nat) : (q.popped k).r = q.adv q.r k := rfl
@[simp] theorem Queue.popped_w (q : Queue) (k : Nat) : (q.popped k).w = q.w := rfl
@[simp] theorem Queue.fresh_present (c : Nat) : (Queue.fresh c).present = true := rfl
@[simp] theorem Queue.fresh_cap (c : Nat) : (Queue.fresh c).cap = c := rfl
@[simp] theorem Queue.fresh_occ (c : Nat) : (Queue.fresh c).occ = 0 := by
  simp [Queue.occ, Queue.fresh]

/-- A number below 4C, modulo 2C. -/
theorem mod_two_cap {x c : Nat} (h : x < 4 * c) :
    x % (2 * c) = if x < 2 * c then x else x - 2 * c := by
  split_ifs with h1
  · exact Nat.mod_eq_of_lt h1
  · rw [Nat.mod_eq_sub_mod (by omega), Nat.mod_eq_of_lt (by omega)]

/-- The occupancy of a legal queue, without a remainder. -/
theorem Queue.occ_eq (h : q.r < 2 * q.cap) (h' : q.w < 2 * q.cap) :
    q.occ = if q.r ≤ q.w then q.w - q.r else q.w + 2 * q.cap - q.r := by
  rw [Queue.occ, mod_two_cap (by omega)]
  split_ifs <;> omega

/-- A cursor after an advance of at most C, without a remainder. -/
theorem Queue.adv_eq {x k : Nat} (h : x < 2 * q.cap) (hk : k ≤ q.cap) :
    q.adv x k = if x + k < 2 * q.cap then x + k else x + k - 2 * q.cap := by
  rw [Queue.adv, mod_two_cap (by omega)]

/-- "equality signals empty" (41_ring_buffer.md R180). -/
theorem Queue.isEmpty_iff (h : q.legal capMax) : q.isEmpty ↔ q.occ = 0 := by
  obtain ⟨_, _, h1, h2, _⟩ := h
  rw [Queue.occ_eq h1 h2]
  unfold Queue.isEmpty
  split_ifs <;> omega

/-- A fresh buffer is legal (00_scope.md R9). -/
theorem Queue.legal_fresh {c : Nat} (h1 : 1 ≤ c) (h2 : c ≤ capMax) : (Queue.fresh c).legal capMax := by
  refine ⟨h1, h2, ?_, ?_, ?_⟩ <;> simp [Queue.fresh, Queue.occ] <;> omega

/-- A push raises the occupancy by 1 (41_ring_buffer.md R181). -/
theorem Queue.occ_pushed (h : q.legal capMax) (hf : q.occ < q.cap) : q.pushed.occ = q.occ + 1 := by
  obtain ⟨h0, _, h1, h2, _⟩ := h
  have hw : q.adv q.w 1 < 2 * q.cap := Nat.mod_lt _ (by omega)
  rw [Queue.occ_eq (q := q.pushed) h1 hw]
  rw [Queue.occ_eq h1 h2] at hf ⊢
  simp only [Queue.pushed_r, Queue.pushed_w, Queue.pushed_cap, Queue.adv_eq h2 h0]
  split_ifs at hf ⊢ <;> omega

/-- A push keeps the queue legal. -/
theorem Queue.legal_pushed (h : q.legal capMax) (hf : q.occ < q.cap) : q.pushed.legal capMax := by
  obtain ⟨h0, hc, h1, h2, h3⟩ := h
  refine ⟨h0, hc, h1, Nat.mod_lt _ (by simp; omega), ?_⟩
  rw [Queue.occ_pushed ⟨h0, hc, h1, h2, h3⟩ hf]
  exact hf

/-- A pop of k words lowers the occupancy by k (41_ring_buffer.md R181). -/
theorem Queue.occ_popped (h : q.legal capMax) {k : Nat} (hk : k ≤ q.occ) :
    (q.popped k).occ = q.occ - k := by
  obtain ⟨h0, _, h1, h2, h3⟩ := h
  have hr : q.adv q.r k < 2 * q.cap := Nat.mod_lt _ (by omega)
  rw [Queue.occ_eq (q := q.popped k) hr h2]
  have hkc : k ≤ q.cap := le_trans hk h3
  rw [Queue.occ_eq h1 h2] at hk ⊢
  simp only [Queue.popped_r, Queue.popped_w, Queue.popped_cap, Queue.adv_eq h1 hkc]
  split_ifs at hk ⊢ <;> omega

/-- A pop keeps the queue legal. -/
theorem Queue.legal_popped (h : q.legal capMax) {k : Nat} (hk : k ≤ q.occ) :
    (q.popped k).legal capMax := by
  have ho := Queue.occ_popped h hk
  obtain ⟨h0, hc, h1, h2, h3⟩ := h
  refine ⟨h0, hc, Nat.mod_lt _ (by simp; omega), h2, ?_⟩
  rw [ho]
  exact le_trans (Nat.sub_le _ _) h3

/-- A slot lies inside the capacity. -/
theorem Queue.slot_lt (h : 1 ≤ q.cap) (x : Nat) : q.slot x < q.cap := Nat.mod_lt _ h

/-- A lane address lies inside the four segments (42_transfer_buffer.md R210). -/
theorem Queue.laneAddr_lt (h : 1 ≤ q.cap) (p : PlayerId) (x : Nat) : q.laneAddr p x < 4 * q.cap := by
  have := Queue.slot_lt h x
  cases p <;> simp only [Queue.laneAddr, PlayerId.toNat] <;> omega

/-- "slot(adv(x, k)) = (x + k) mod C" (41_ring_buffer.md R180). -/
theorem Queue.slot_adv (q : Queue) (x k : Nat) : q.slot (q.adv x k) = q.slot (x + k) := by
  simp only [Queue.slot, Queue.adv]
  exact Nat.mod_mod_of_dvd _ ⟨2, by ring⟩

/-- The next word to be pushed goes to logical position occ. -/
theorem Queue.slot_w (h : q.legal capMax) : q.slot q.w = q.slot (q.r + q.occ) := by
  obtain ⟨_, _, h1, h2, _⟩ := h
  rw [Queue.occ_eq h1 h2]
  split_ifs with h3
  · congr 1; omega
  · have : q.r + (q.w + 2 * q.cap - q.r) = q.w + q.cap * 2 := by omega
    rw [this, Queue.slot, Queue.slot, Nat.add_mul_mod_self_left]

/-- Logical positions less than C apart stand at different slots. -/
theorem Queue.slot_inj {i j : Nat} (hi : i < q.cap) (hj : j < q.cap)
    (h : q.slot (q.r + i) = q.slot (q.r + j)) : i = j := by
  simp only [Queue.slot] at h
  have h' : i ≡ j [MOD q.cap] := Nat.ModEq.add_left_cancel' q.r h
  rwa [Nat.ModEq, Nat.mod_eq_of_lt hi, Nat.mod_eq_of_lt hj] at h'

/-- Different lanes never share a word, nor do different slots of one lane
(42_transfer_buffer.md R210, R211). -/
theorem Queue.laneAddr_inj (h : 1 ≤ q.cap) {p p' : PlayerId} {x y : Nat}
    (he : q.laneAddr p x = q.laneAddr p' y) : p = p' ∧ q.slot x = q.slot y := by
  have hx := Queue.slot_lt h x
  have hy := Queue.slot_lt h y
  cases p <;> cases p' <;> simp only [Queue.laneAddr, PlayerId.toNat] at he <;>
    first
    | exact ⟨rfl, by omega⟩
    | (exfalso; omega)

/-- The head slots after a push: the old ones, then the written one. -/
theorem Queue.headSlots_pushed (h : q.legal capMax) (hf : q.occ < q.cap) :
    q.pushed.headSlots q.pushed.occ = q.headSlots q.occ ++ [q.slot q.w] := by
  rw [Queue.occ_pushed h hf, Queue.slot_w h]
  simp [Queue.headSlots, List.range_succ, Queue.slot]

/-- The head slots after a pop of k words: the old ones without the first k. -/
theorem Queue.headSlots_popped (q : Queue) (k n : Nat) :
    (q.popped k).headSlots n = (q.headSlots (k + n)).drop k := by
  apply List.ext_getElem
  · simp [Queue.headSlots]
  · intro i h1 h2
    simp only [Queue.headSlots, List.getElem_map, List.getElem_range, List.getElem_drop,
      Queue.popped_r]
    show (q.adv q.r k + i) % q.cap = (q.r + (k + i)) % q.cap
    have := Queue.slot_adv q q.r k
    simp only [Queue.slot] at this
    rw [Nat.add_mod, this, ← Nat.add_mod, Nat.add_assoc]

/-- The head lane addresses after a push: the old ones, then the written one. -/
theorem Queue.headLane_pushed (h : q.legal capMax) (hf : q.occ < q.cap) (p : PlayerId) :
    q.pushed.headLane p q.pushed.occ = q.headLane p q.occ ++ [q.laneAddr p q.w] := by
  have := Queue.slot_w h
  rw [Queue.occ_pushed h hf, Queue.laneAddr, this]
  simp [Queue.headLane, List.range_succ, Queue.laneAddr, Queue.slot]

/-- The head lane addresses after a pop of k tuples: the old ones without the first k. -/
theorem Queue.headLane_popped (q : Queue) (p : PlayerId) (k n : Nat) :
    (q.popped k).headLane p n = (q.headLane p (k + n)).drop k := by
  have h := Queue.headSlots_popped q k n
  have e : ∀ (q : Queue) (n : Nat), q.headLane p n = (q.headSlots n).map (p.toNat * q.cap + ·) := by
    intro q n; simp [Queue.headLane, Queue.headSlots, Queue.laneAddr]
  rw [e, e, h, List.map_drop, Queue.popped_cap]

end Sys2Proof.Machine
end

