-- ==== Sys2Proof/Laws/Buffers.lean ====
section
/-! SUPPORT. What each buffer core can answer, once and in full (41_ring_buffer.md R184 to R189;
42_transfer_buffer.md R214 to R219). -/

namespace Sys2Proof.Machine

/-! ### Allocation -/

theorem rbAllocCore_eq_ok {cap : Word} {s t : State} :
    rbAllocCore cap s = .ok t ↔
      s.rb.present = false ∧ capacityLegal s.cfg cap ∧ t = { s with rb := Queue.fresh cap.toNat } := by
  unfold rbAllocCore
  split_ifs with h1 h2
  · simp [h1]
  · simp only [Except.ok.injEq]
    exact ⟨fun h => ⟨by simpa using h1, h2, h.symm⟩, fun h => h.2.2.symm⟩
  · simp [h2]

theorem tbAllocCore_eq_ok {cap : Word} {s t : State} :
    tbAllocCore cap s = .ok t ↔
      s.tb.present = false ∧ capacityLegal s.cfg cap ∧ t = { s with tb := Queue.fresh cap.toNat } := by
  unfold tbAllocCore
  split_ifs with h1 h2
  · simp [h1]
  · simp only [Except.ok.injEq]
    exact ⟨fun h => ⟨by simpa using h1, h2, h.symm⟩, fun h => h.2.2.symm⟩
  · simp [h2]

/-! ### The ring buffer -/

theorem rbPushCore_eq_some {v : Word} {s t : State} :
    rbPushCore v s = .ok (some t) ↔
      s.rb.present = true ∧ ¬ s.rb.isFull ∧ s.rb.slot s.rb.w < s.rbmSize ∧
        t = { s with rbm := s.rbm.insert (s.rb.slot s.rb.w) v, rb := s.rb.pushed } := by
  unfold rbPushCore Memory.write
  split_ifs with h1 h2 h3
  · simp [h1]
  · simp [h2]
  · simp only [Except.ok.injEq, Option.some.injEq]
    exact ⟨fun h => ⟨by simpa using h1, h2, h3, h.symm⟩, fun h => h.2.2.2.symm⟩
  · simp [h3]

theorem rbPushCore_eq_none {v : Word} {s : State} :
    rbPushCore v s = .ok none ↔ s.rb.present = true ∧ s.rb.isFull := by
  unfold rbPushCore Memory.write
  split_ifs with h1 h2 h3
  · simp [h1]
  · exact iff_of_true rfl ⟨by simpa using h1, h2⟩
  · simp [h2]
  · simp [h2]

theorem rbPopCore_eq_some {v : Word} {s t : State} :
    rbPopCore s = .ok (some (v, t)) ↔
      s.rb.present = true ∧ ¬ s.rb.isEmpty ∧ s.rb.slot s.rb.r < s.rbmSize ∧
        s.rbm.lookup (s.rb.slot s.rb.r) = some v ∧ t = { s with rb := s.rb.popped 1 } := by
  unfold rbPopCore
  split_ifs with h1 h2
  · simp [h1]
  · simp [h2]
  · cases h : Memory.read s.rbmSize s.rbm (s.rb.slot s.rb.r) with
    | error f =>
      have : ¬ (s.rb.slot s.rb.r < s.rbmSize ∧ s.rbm.lookup (s.rb.slot s.rb.r) = some v) := by
        rw [← Memory.read_eq_ok, h]; simp
      simp only [reduceCtorEq, false_iff]
      rintro ⟨-, -, h3, h4, -⟩
      exact this ⟨h3, h4⟩
    | ok w =>
      obtain ⟨h3, h4⟩ := Memory.read_eq_ok.mp h
      simp only [Except.ok.injEq, Option.some.injEq, Prod.mk.injEq, h4]
      constructor
      · rintro ⟨rfl, rfl⟩; exact ⟨by simpa using h1, h2, h3, rfl, rfl⟩
      · rintro ⟨-, -, -, rfl, rfl⟩; exact ⟨rfl, rfl⟩

theorem rbPopCore_eq_none {s : State} :
    rbPopCore s = .ok none ↔ s.rb.present = true ∧ s.rb.isEmpty := by
  unfold rbPopCore
  split_ifs with h1 h2
  · simp [h1]
  · exact iff_of_true rfl ⟨by simpa using h1, h2⟩
  · cases Memory.read s.rbmSize s.rbm (s.rb.slot s.rb.r) <;> simp [h2]

theorem rbReadBulkCore_eq_ok {n : Nat} {s t : State} {out : List Word} :
    rbReadBulkCore n s = .ok (out, t) ↔
      s.rb.present = true ∧
        (∀ a ∈ s.rb.headSlots (min s.rb.occ n), a < s.rbmSize) ∧
        (s.rb.headSlots (min s.rb.occ n)).map s.rbm.lookup = out.map some ∧
        t = { s with rb := s.rb.popped (min s.rb.occ n) } := by
  unfold rbReadBulkCore
  split_ifs with h1
  · simp [h1]
  · have hp : s.rb.present = true := by simpa using h1
    simp only [hp, true_and]
    rw [← and_assoc, ← Memory.readAll_eq_ok]
    cases Memory.readAll s.rbmSize s.rbm (s.rb.headSlots (min s.rb.occ n)) <;> simp [eq_comm]

/-- A bulk write touches nothing but RB and RBM, and keeps RB's presence and capacity. -/
theorem rbWriteBulkCore_frame {ws : List Word} {s t : State} {k : Nat}
    (h : rbWriteBulkCore ws s = .ok (k, t)) :
    t = { s with rbm := t.rbm, rb := t.rb } ∧ s.rb.present = true ∧ t.rb.present = true ∧
      t.rb.cap = s.rb.cap ∧ t.rb.r = s.rb.r ∧ k ≤ ws.length := by
  induction ws generalizing s k with
  | nil =>
    unfold rbWriteBulkCore at h
    split_ifs at h with h1
    have h1 : s.rb.present = true := by simpa using h1
    simp only [Except.ok.injEq, Prod.mk.injEq] at h
    obtain ⟨rfl, rfl⟩ := h
    exact ⟨rfl, h1, h1, rfl, rfl, le_rfl⟩
  | cons v ws ih =>
    unfold rbWriteBulkCore at h
    cases hp : rbPushCore v s with
    | error f => simp [hp] at h
    | ok o =>
      cases o with
      | none =>
        simp only [hp, Except.ok.injEq, Prod.mk.injEq] at h
        obtain ⟨rfl, rfl⟩ := h
        have := (rbPushCore_eq_none.mp hp).1
        exact ⟨rfl, this, this, rfl, rfl, Nat.zero_le _⟩
      | some u =>
        obtain ⟨h1, -, -, rfl⟩ := rbPushCore_eq_some.mp hp
        simp only [hp] at h
        split at h
        · rename_i k' u' hu
          simp only [Except.ok.injEq, Prod.mk.injEq] at h
          obtain ⟨rfl, rfl⟩ := h
          obtain ⟨e, -, a, b, c, d⟩ := ih hu
          exact ⟨e, h1, a, b, c, by simpa using d⟩
        · simp at h

/-! ### The fan-out buffer -/

theorem tbWriteTuple_eq_ok {size : Nat} {m m' : Memory} {q : Queue} {x : Nat} {t : Four Word} :
    tbWriteTuple size m q x t = .ok m' ↔
      (q.laneAddr .p0 x < size ∧ q.laneAddr .p1 x < size ∧ q.laneAddr .p2 x < size ∧
        q.laneAddr .p3 x < size) ∧
      m' = (((m.insert (q.laneAddr .p0 x) t.l0).insert (q.laneAddr .p1 x) t.l1).insert
        (q.laneAddr .p2 x) t.l2).insert (q.laneAddr .p3 x) t.l3 := by
  unfold tbWriteTuple Memory.write
  split_ifs <;> simp_all [bind, Except.bind, eq_comm]

theorem tbReadTuple_eq_ok {size : Nat} {m : Memory} {q : Queue} {x : Nat} {t : Four Word} :
    tbReadTuple size m q x = .ok t ↔
      ∀ p ∈ [PlayerId.p0, .p1, .p2, .p3],
        q.laneAddr p x < size ∧ m.lookup (q.laneAddr p x) = some (t.get p) := by
  obtain ⟨t0, t1, t2, t3⟩ := t
  simp only [List.mem_cons, List.not_mem_nil, or_false, forall_eq_or_imp, forall_eq, Four.get,
    ← Memory.read_eq_ok]
  unfold tbReadTuple
  cases m.read size (q.laneAddr .p0 x) <;> cases m.read size (q.laneAddr .p1 x) <;>
    cases m.read size (q.laneAddr .p2 x) <;> cases m.read size (q.laneAddr .p3 x) <;>
    simp [bind, Except.bind, pure, Except.pure]

theorem tbPushCore_eq_some {v : Four Word} {s t : State} :
    tbPushCore v s = .ok (some t) ↔
      s.tb.present = true ∧ ¬ s.tb.isFull ∧
        ∃ m, tbWriteTuple s.tbmSize s.tbm s.tb s.tb.w v = .ok m ∧
          t = { s with tbm := m, tb := s.tb.pushed } := by
  unfold tbPushCore
  split_ifs with h1 h2
  · simp [h1]
  · simp [h2]
  · have hp : s.tb.present = true := by simpa using h1
    cases tbWriteTuple s.tbmSize s.tbm s.tb s.tb.w v <;> simp [hp, h2, eq_comm]

theorem tbPushCore_eq_none {v : Four Word} {s : State} :
    tbPushCore v s = .ok none ↔ s.tb.present = true ∧ s.tb.isFull := by
  unfold tbPushCore
  split_ifs with h1 h2
  · simp [h1]
  · exact iff_of_true rfl ⟨by simpa using h1, h2⟩
  · cases tbWriteTuple s.tbmSize s.tbm s.tb s.tb.w v <;> simp [h2]

theorem tbPeekCore_eq_some {t : Four Word} {s : State} :
    tbPeekCore s = .ok (some t) ↔
      s.tb.present = true ∧ ¬ s.tb.isEmpty ∧ tbReadTuple s.tbmSize s.tbm s.tb s.tb.r = .ok t := by
  unfold tbPeekCore
  split_ifs with h1 h2
  · simp [h1]
  · simp [h2]
  · have hp : s.tb.present = true := by simpa using h1
    cases tbReadTuple s.tbmSize s.tbm s.tb s.tb.r <;> simp [hp, h2]

theorem tbPeekCore_eq_none {s : State} :
    tbPeekCore s = .ok none ↔ s.tb.present = true ∧ s.tb.isEmpty := by
  unfold tbPeekCore
  split_ifs with h1 h2
  · simp [h1]
  · exact iff_of_true rfl ⟨by simpa using h1, h2⟩
  · cases tbReadTuple s.tbmSize s.tbm s.tb s.tb.r <;> simp [h2]

theorem tbPopCore_eq_some {t : Four Word} {s u : State} :
    tbPopCore s = .ok (some (t, u)) ↔
      tbPeekCore s = .ok (some t) ∧ u = { s with tb := s.tb.popped 1 } := by
  unfold tbPopCore
  rcases tbPeekCore s with f | (_ | v) <;> simp
  exact fun _ => eq_comm

theorem tbPopCore_eq_none {s : State} :
    tbPopCore s = .ok none ↔ tbPeekCore s = .ok none := by
  unfold tbPopCore
  rcases tbPeekCore s with f | (_ | v) <;> simp

theorem tbReadBulkCore_eq_ok {l n : Four Nat} {out : Four (List Word)} {s t : State} :
    tbReadBulkCore l s = .ok (n, out, t) ↔
      s.tb.present = true ∧ n = s.tb.bulkCounts l ∧
        (∀ p ∈ [PlayerId.p0, .p1, .p2, .p3],
          Memory.readAll s.tbmSize s.tbm (s.tb.headLane p ((s.tb.bulkCounts l).get p)) =
            .ok (out.get p)) ∧
        t = { s with tb := s.tb.popped (s.tb.bulkCounts l).least } := by
  obtain ⟨o0, o1, o2, o3⟩ := out
  simp only [List.mem_cons, List.not_mem_nil, or_false, forall_eq_or_imp, forall_eq, Four.get]
  unfold tbReadBulkCore
  split_ifs with h1
  · simp [h1]
  · have hp : s.tb.present = true := by simpa using h1
    simp only [hp, true_and]
    cases Memory.readAll s.tbmSize s.tbm (s.tb.headLane .p0 (s.tb.bulkCounts l).l0) <;>
      cases Memory.readAll s.tbmSize s.tbm (s.tb.headLane .p1 (s.tb.bulkCounts l).l1) <;>
      cases Memory.readAll s.tbmSize s.tbm (s.tb.headLane .p2 (s.tb.bulkCounts l).l2) <;>
      cases Memory.readAll s.tbmSize s.tbm (s.tb.headLane .p3 (s.tb.bulkCounts l).l3) <;>
      simp [bind, Except.bind, pure, Except.pure, and_assoc, eq_comm]

/-! ### The canonical form (20_memory.md R80) -/

/-- A push on RB keeps RBM canonical. -/
theorem rbPushCore_wf {v : Word} {s t : State} (h : rbPushCore v s = .ok (some t))
    (hw : s.rbm.wf) : t.rbm.wf := by
  obtain ⟨-, -, -, rfl⟩ := rbPushCore_eq_some.mp h
  exact Memory.wf_insert hw _ _

/-- A bulk write on RB keeps RBM canonical. -/
theorem rbWriteBulkCore_wf {ws : List Word} {s t : State} {k : Nat}
    (h : rbWriteBulkCore ws s = .ok (k, t)) (hw : s.rbm.wf) : t.rbm.wf := by
  induction ws generalizing s t k with
  | nil =>
    unfold rbWriteBulkCore at h
    split_ifs at h
    simp only [Except.ok.injEq, Prod.mk.injEq] at h
    exact h.2 ▸ hw
  | cons v ws ih =>
    unfold rbWriteBulkCore at h
    cases hp : rbPushCore v s with
    | error f => simp [hp] at h
    | ok o =>
      cases o with
      | none =>
        simp only [hp, Except.ok.injEq, Prod.mk.injEq] at h
        exact h.2 ▸ hw
      | some u =>
        simp only [hp] at h
        split at h
        · rename_i k' u' hu
          simp only [Except.ok.injEq, Prod.mk.injEq] at h
          rw [← h.2]
          exact ih hu (rbPushCore_wf hp hw)
        · simp at h

/-- A push on TB keeps TBM canonical. -/
theorem tbPushCore_wf {v : Four Word} {s t : State} (h : tbPushCore v s = .ok (some t))
    (hw : s.tbm.wf) : t.tbm.wf := by
  obtain ⟨-, -, m, hm, rfl⟩ := tbPushCore_eq_some.mp h
  obtain ⟨-, rfl⟩ := tbWriteTuple_eq_ok.mp hm
  exact Memory.wf_insert (Memory.wf_insert (Memory.wf_insert (Memory.wf_insert hw _ _) _ _) _ _) _ _

/-- The memory after reset has the canonical form. -/
theorem reset_memory_wf : State.reset.rbm.wf ∧ State.reset.tbm.wf := by decide

end Sys2Proof.Machine
end

