-- ==== Sys2Proof/Laws/Cable.lean ====
section
/-! SUPPORT. The fields of a cable after each of its operations, and what a completion leaves on each
unit. -/

namespace Sys2Proof.Machine

@[simp] theorem Cable.noted_units (c : Cable) : c.noted.units = c.units := rfl

@[simp] theorem Cable.noted_positions (c : Cable) : c.noted.positions = c.positions := rfl

@[simp] theorem Cable.noted_word (c : Cable) (p : PlayerId) : c.noted.word p = c.word p := rfl

/-- Once broken, a cable stays broken; differing codes in a transfer break it. -/
theorem Cable.noted_broken (c : Cable) :
    c.noted.broken = true ↔
      c.broken = true ∨ (∃ u ∈ c.units, u.xferActive = true) ∧ ¬ c.ratesMatch := by
  simp [Cable.noted]

@[simp] theorem Cable.completeAll_broken (c : Cable) (errs : Four Bool) (words : Four (Four Word)) :
    (c.completeAll errs words).broken = c.broken := rfl

/-- The peer words of a completion: drawn where a precondition is broken, else the latched words. -/
theorem Cable.peerWords_broken (c : Cable) (words : Four (Four Word)) (u : State)
    (h : c.broken = true) : c.peerWords words u = words.get u.cfg.posHw := if_pos h

theorem Cable.peerWords_agree (c : Cable) (words : Four (Four Word)) (u : State)
    (h : c.broken = false) : c.peerWords words u = Four.ofFn c.word := by
  simp [Cable.peerWords, h]

end Sys2Proof.Machine
end

