-- ==== Sys2Proof/Laws/Link.lean ====
section
/-! SUPPORT. The link registers: the bits of a SIOCNT read, what each read-modify-write stores, what
a mode change and a start request can do (10_state.md R34; 20_memory.md R87 to R92). -/

namespace Sys2Proof.Machine

variable (s : State)

/-! ### The bits of a read -/

theorem siocntRead_baud : s.siocntRead.extractLsb' 0 2 = s.sio.baud := by
  ext i hi
  simp only [State.siocntRead, BitVec.getElem_extractLsb', BitVec.getLsbD_append]
  have : i = 0 ∨ i = 1 := by omega
  rcases this with rfl | rfl <;> simp

theorem siocntRead_si : s.siocntRead[2] = s.flagSi := by
  rw [← BitVec.getLsbD_eq_getElem]
  simp only [State.siocntRead, BitVec.getLsbD_append]
  simp

theorem siocntRead_sd : s.siocntRead[3] = s.readSd := by
  rw [← BitVec.getLsbD_eq_getElem]
  simp only [State.siocntRead, BitVec.getLsbD_append]
  simp

theorem readSd_of_multi (h : s.multi) : s.readSd = s.env.peersReady := by
  simp [State.readSd, State.flagSd, State.localReady, h]

theorem readSd_of_other (h : ¬ s.multi) : s.readSd = s.env.garbage[3] := if_neg h

/-- The ready check and the start write see SD = 0 in OTHER mode (20_memory.md R93). -/
theorem flagSd_of_other (h : ¬ s.multi) : s.flagSd = false := by
  simp only [State.flagSd, State.localReady, decide_eq_false h, Bool.false_and]

theorem siocntRead_id : s.siocntRead.extractLsb' 4 2 = s.flagId := by
  ext i hi
  simp only [State.siocntRead, BitVec.getElem_extractLsb', BitVec.getLsbD_append]
  have : i = 0 ∨ i = 1 := by omega
  rcases this with rfl | rfl <;> simp

theorem siocntRead_err : s.siocntRead[6] = s.flagErr := by
  rw [← BitVec.getLsbD_eq_getElem]
  simp only [State.siocntRead, BitVec.getLsbD_append]
  simp

theorem siocntRead_busy : s.siocntRead[7] = s.flagBusy := by
  rw [← BitVec.getLsbD_eq_getElem]
  simp only [State.siocntRead, BitVec.getLsbD_append]
  simp

theorem siocntRead_unusedLo : s.siocntRead.extractLsb' 8 4 = s.sio.unusedLo := by
  ext i hi
  simp only [State.siocntRead, BitVec.getElem_extractLsb', BitVec.getLsbD_append]
  have : i = 0 ∨ i = 1 ∨ i = 2 ∨ i = 3 := by omega
  rcases this with rfl | rfl | rfl | rfl <;> simp

theorem siocntRead_mode : s.siocntRead.extractLsb' 12 2 = s.sio.mode := by
  ext i hi
  simp only [State.siocntRead, BitVec.getElem_extractLsb', BitVec.getLsbD_append]
  have : i = 0 ∨ i = 1 := by omega
  rcases this with rfl | rfl <;> simp

theorem siocntRead_irq : s.siocntRead[14] = s.sio.irq := by
  rw [← BitVec.getLsbD_eq_getElem]
  simp only [State.siocntRead, BitVec.getLsbD_append]
  simp

theorem siocntRead_unusedHi : s.siocntRead[15] = s.sio.unusedHi := by
  rw [← BitVec.getLsbD_eq_getElem]
  simp only [State.siocntRead, BitVec.getLsbD_append]
  simp

/-! ### What a read-modify-write stores -/

/-- Writing back what was read stores nothing new (20_memory.md R87). -/
theorem store_siocntRead : s.sio.store s.siocntRead = s.sio := by
  simp only [Siocnt.store, siocntRead_baud, siocntRead_unusedLo, siocntRead_mode, siocntRead_irq,
    siocntRead_unusedHi]

/-- `with MODE <- 0b10, BAUD <- rate, START <- 0` stores the mode and the rate and keeps the rest. -/
theorem store_withModeBaud (old : Siocnt) (rate : BaudRate) (v : Word) :
    old.store (withModeBaud rate v) = { old.store v with baud := rate, mode := 2 } := by
  simp only [Siocnt.store, withModeBaud, Siocnt.mk.injEq, true_and]
  refine ⟨?_, ?_, ?_, ?_, ?_⟩
  · ext i hi
    simp only [BitVec.getElem_extractLsb', BitVec.getLsbD_append]
    have : i = 0 ∨ i = 1 := by omega
    rcases this with rfl | rfl <;> simp
  · ext i hi
    simp only [BitVec.getElem_extractLsb', BitVec.getLsbD_append]
    have : i = 0 ∨ i = 1 ∨ i = 2 ∨ i = 3 := by omega
    rcases this with rfl | rfl | rfl | rfl <;> simp
  · ext i hi
    simp only [BitVec.getElem_extractLsb', BitVec.getLsbD_append]
    have : i = 0 ∨ i = 1 := by omega
    rcases this with rfl | rfl <;> simp
  · rw [← BitVec.getLsbD_eq_getElem]; simp only [BitVec.getLsbD_append]; simp
  · rw [← BitVec.getLsbD_eq_getElem]; simp only [BitVec.getLsbD_append]; simp

/-- `with IRQ <- on, START <- 0` stores the enable bit and keeps the rest. -/
theorem store_withIrq (old : Siocnt) (on : Bool) (v : Word) :
    old.store (withIrq on v) = { old.store v with irq := on } := by
  simp only [Siocnt.store, withIrq, Siocnt.mk.injEq, true_and]
  refine ⟨?_, ?_, ?_, ?_, ?_⟩
  · ext i hi
    simp only [BitVec.getElem_extractLsb', BitVec.getLsbD_append]
    have : i = 0 ∨ i = 1 := by omega
    rcases this with rfl | rfl <;> simp
  · ext i hi
    simp only [BitVec.getElem_extractLsb', BitVec.getLsbD_append]
    have : i = 0 ∨ i = 1 ∨ i = 2 ∨ i = 3 := by omega
    rcases this with rfl | rfl | rfl | rfl <;> simp
  · ext i hi
    simp only [BitVec.getElem_extractLsb', BitVec.getLsbD_append]
    have : i = 0 ∨ i = 1 := by omega
    rcases this with rfl | rfl <;> simp
  · rw [← BitVec.getLsbD_eq_getElem]; simp only [BitVec.getLsbD_append]; simp
  · rw [← BitVec.getLsbD_eq_getElem]; simp only [BitVec.getLsbD_append]; simp

/-- `with START <- 1` stores what was there. -/
theorem store_withStart (old : Siocnt) (v : Word) : old.store (withStart v) = old.store v := by
  simp only [Siocnt.store, withStart, Siocnt.mk.injEq, true_and]
  refine ⟨?_, ?_, ?_, by simp, by simp⟩
  · ext i hi
    have : i = 0 ∨ i = 1 := by omega
    rcases this with rfl | rfl <;> simp
  · ext i hi
    have : i = 0 ∨ i = 1 ∨ i = 2 ∨ i = 3 := by omega
    rcases this with rfl | rfl | rfl | rfl <;> simp
  · ext i hi
    have : i = 0 ∨ i = 1 := by omega
    rcases this with rfl | rfl <;> simp

/-- "Every BTC write to SIOCNT writes START = 0, except the start write" (20_memory.md R87). -/
theorem start_withModeBaud (rate : BaudRate) (v : Word) : (withModeBaud rate v)[7] = false := by
  rw [← BitVec.getLsbD_eq_getElem]; simp only [withModeBaud, BitVec.getLsbD_append]; simp

theorem start_withIrq (on : Bool) (v : Word) : (withIrq on v)[7] = false := by
  rw [← BitVec.getLsbD_eq_getElem]; simp only [withIrq, BitVec.getLsbD_append]; simp

theorem start_withStart (v : Word) : (withStart v)[7] = true := by simp [withStart]

/-! ### Mode changes and start requests -/

/-- A write that leaves RCNT[15] and MODE as they are changes no mode (20_memory.md R88). -/
theorem settleMode_of_same (before s : State) (h : before.multi ↔ s.multi) :
    before.settleMode s = s := by
  unfold State.settleMode
  rw [if_neg (fun ⟨h1, h2⟩ => h2 (h.mp h1)), if_neg (fun ⟨h1, h2⟩ => h1 (h.mpr h2))]

/-- A write that enters multiplayer mode (20_memory.md R88). -/
theorem settleMode_enter (before s : State) (h1 : ¬ before.multi) (h2 : s.multi) :
    before.settleMode s = s.enterMulti := by
  unfold State.settleMode
  rw [if_neg (fun h => h1 h.1), if_pos ⟨h1, h2⟩]

/-- A write that leaves multiplayer mode (20_memory.md R88). -/
theorem settleMode_leave (before s : State) (h1 : before.multi) (h2 : ¬ s.multi) :
    before.settleMode s = s.leaveMulti := by
  unfold State.settleMode
  rw [if_pos ⟨h1, h2⟩]

/-- What a mode change can do: nothing, an entry, a leave, or a leave that abandons the transfer in
progress (20_memory.md R88). -/
theorem settleMode_cases (before s : State) :
    (before.settleMode s = s ∧ (before.multi ↔ s.multi)) ∨
    (before.settleMode s = s.enterMulti ∧ ¬ before.multi ∧ s.multi) ∨
    (before.settleMode s = { s with idValid := false } ∧ before.multi ∧ ¬ s.multi ∧
      ¬ (s.xferActive = true ∧ s.env.abandon = true)) ∨
    (before.settleMode s =
        { s with idValid := false, xferActive := false, recv := s.env.words } ∧
      before.multi ∧ ¬ s.multi ∧ s.xferActive = true ∧ s.env.abandon = true) := by
  by_cases h1 : before.multi <;> by_cases h2 : s.multi
  · exact .inl ⟨settleMode_of_same _ _ (iff_of_true h1 h2), iff_of_true h1 h2⟩
  · rw [settleMode_leave _ _ h1 h2]
    unfold State.leaveMulti
    by_cases h3 : s.xferActive = true ∧ s.env.abandon = true
    · exact .inr (.inr (.inr ⟨if_pos h3, h1, h2, h3⟩))
    · exact .inr (.inr (.inl ⟨if_neg h3, h1, h2, h3⟩))
  · exact .inr (.inl ⟨settleMode_enter _ _ h1 h2, h1, h2⟩)
  · exact .inl ⟨settleMode_of_same _ _ (iff_of_false h1 h2), iff_of_false h1 h2⟩

/-- An RCNT write with bit 15 clear settles the mode and does no more (20_memory.md R88). -/
theorem writeRcnt_serial {v : Word} (h : v[15] = false) :
    s.writeRcnt v = s.settleMode { s with rcnt := v } := by
  unfold State.writeRcnt
  rw [h]
  exact if_neg (by decide)

/-- What an RCNT write with bit 15 set can do: id_valid is cleared, and a transfer in progress is
abandoned where LINK draws so as the mode is left (20_memory.md R88; 40_transfer_state_machine.md
R153). -/
theorem writeRcnt_alternate {v : Word} (h : v[15] = true) :
    s.writeRcnt v =
      if s.multi ∧ s.xferActive = true ∧ s.env.abandon = true then
        { s with rcnt := v, idValid := false, xferActive := false, recv := s.env.words }
      else { s with rcnt := v, idValid := false } := by
  have h2 : ¬ ({ s with rcnt := v } : State).multi := fun hm => by
    have := hm.1
    rw [show ({ s with rcnt := v } : State).rcnt = v from rfl, h] at this
    cases this
  unfold State.writeRcnt
  rw [h, if_pos rfl]
  rcases settleMode_cases s { s with rcnt := v } with ⟨he, hiff⟩ | ⟨_, _, hm⟩ | ⟨he, _, _, hx⟩ | ⟨he, h1, _, hx⟩
  · rw [he, if_neg (fun hc => h2 (hiff.mp hc.1))]
  · exact absurd hm h2
  · rw [he, if_neg (fun hc => hx hc.2)]
  · rw [he, if_pos ⟨h1, hx⟩]

/-- What a start request can do: nothing, or a transfer begin by a parent in multiplayer mode with no
transfer in progress (20_memory.md R90). -/
theorem requestStart_cases (s : State) :
    s.requestStart = s ∨
    (s.requestStart = s.beginTransfer ∧ s.multi ∧ s.cfg.roleHw = .parent ∧ s.xferActive = false ∧
      (s.flagSd = true ∨ s.env.race = true)) := by
  unfold State.requestStart
  split_ifs with h
  · exact .inr ⟨rfl, h⟩
  · exact .inl rfl

/-- A SIOCNT write with START = 0 stores the fields and settles the mode (20_memory.md R87). -/
theorem writeSiocnt_of_start_zero {v : Word} (h : v[7] = false) :
    s.writeSiocnt v = s.settleMode { s with sio := s.sio.store v } := by
  unfold State.writeSiocnt
  rw [h]
  exact if_neg (by decide)

/-- The start write of a read-modify-write requests a start and changes nothing else
(20_memory.md R87, R90). -/
theorem writeSiocnt_withStart {v : Word} (h : s.sio.store v = s.sio) :
    s.writeSiocnt (withStart v) = s.requestStart := by
  unfold State.writeSiocnt
  rw [start_withStart, store_withStart, h]
  exact congrArg State.requestStart (settleMode_of_same s s Iff.rfl)

/-- The interrupt-enable write of a read-modify-write changes the enable bit alone
(43_session.md R241, R249). -/
theorem writeSiocnt_withIrq {v : Word} (on : Bool) (h : s.sio.store v = s.sio) :
    s.writeSiocnt (withIrq on v) = { s with sio := { s.sio with irq := on } } := by
  rw [writeSiocnt_of_start_zero s (start_withIrq on v), store_withIrq, h]
  exact settleMode_of_same _ _ Iff.rfl

/-- The mode-and-rate write of a read-modify-write (40_transfer_state_machine.md R150, R152). -/
theorem writeSiocnt_withModeBaud {v : Word} (rate : BaudRate) (h : s.sio.store v = s.sio) :
    s.writeSiocnt (withModeBaud rate v) =
      s.settleMode { s with sio := { s.sio with baud := rate, mode := 2 } } := by
  rw [writeSiocnt_of_start_zero s (start_withModeBaud rate v), store_withModeBaud, h]

end Sys2Proof.Machine
end

