-- ==== Sys2Proof/Laws/PerInstr.lean ====
section
/-! SUPPORT. Facts about every command as syntax, one lemma per constructor. -/

namespace Sys2Proof

/-- The OPC field of a header is the opcode it was made with (30_encoding.md R111). -/
theorem headerOpc_mkHeader (opc : BitVec 8) (a2 : BitVec 2) (imm : Word) :
    headerOpc (mkHeader opc a2 imm) = opc := by
  ext i hi
  simp only [headerOpc, mkHeader, BitVec.getElem_extractLsb', BitVec.getLsbD_append]
  rw [if_neg (by omega), if_neg (by omega), if_neg (by omega)]
  rw [show 24 + i - 16 - 2 - 6 = i by omega, BitVec.getLsbD_eq_getElem hi]

/-- The RSV field of a header is 0 (30_encoding.md R111). -/
theorem headerRsv_mkHeader (opc : BitVec 8) (a2 : BitVec 2) (imm : Word) :
    headerRsv (mkHeader opc a2 imm) = 0 := by
  ext i hi
  simp only [headerRsv, mkHeader, BitVec.getElem_extractLsb', BitVec.getLsbD_append]
  rw [if_neg (by omega), if_neg (by omega), if_pos (by omega)]
  simp

/-- The A2 field of a header is the one it was made with (30_encoding.md R111). -/
theorem headerA2_mkHeader (opc : BitVec 8) (a2 : BitVec 2) (imm : Word) :
    headerA2 (mkHeader opc a2 imm) = a2 := by
  ext i hi
  simp only [headerA2, mkHeader, BitVec.getElem_extractLsb', BitVec.getLsbD_append]
  rw [if_neg (by omega), if_pos (by omega)]
  rw [show 16 + i - 16 = i by omega, BitVec.getLsbD_eq_getElem hi]

/-- The IMM16 field of a header is the one it was made with (30_encoding.md R111). -/
theorem headerImm_mkHeader (opc : BitVec 8) (a2 : BitVec 2) (imm : Word) :
    headerImm (mkHeader opc a2 imm) = imm := by
  ext i hi
  simp only [headerImm, mkHeader, BitVec.getElem_extractLsb', BitVec.getLsbD_append]
  rw [if_pos (by omega)]
  rw [show 0 + i = i by omega, BitVec.getLsbD_eq_getElem hi]

end Sys2Proof

namespace Sys2Proof.Laws.HeaderFields

/-- The fields of a command's header: OPC its row's opcode, RSV 0, A2 and IMM16 its operands, and A2
and IMM16 are 0 where its format has no such operand (30_encoding.md R111, R113). -/
def Statement (i : Instr) : Prop :=
  headerOpc i.header = i.op.code ∧ headerRsv i.header = 0 ∧ headerA2 i.header = i.a2 ∧
    headerImm i.header = i.imm ∧
    (i.op.fmt = .h ∨ i.op.fmt = .i ∨ i.op.fmt = .n ∨ i.op.fmt = .q → i.a2 = 0) ∧
    (i.op.fmt = .h ∨ i.op.fmt = .a ∨ i.op.fmt = .q → i.imm = 0)

/-- The part of the statement that holds of every command alike. -/
theorem fields (i : Instr)
    (ha : i.op.fmt = .h ∨ i.op.fmt = .i ∨ i.op.fmt = .n ∨ i.op.fmt = .q → i.a2 = 0)
    (hi : i.op.fmt = .h ∨ i.op.fmt = .a ∨ i.op.fmt = .q → i.imm = 0) : Statement i :=
  ⟨headerOpc_mkHeader _ _ _, headerRsv_mkHeader _ _ _, headerA2_mkHeader _ _ _,
    headerImm_mkHeader _ _ _, ha, hi⟩

theorem smInit (rate : BaudRate) : Statement (.smInit rate) := fields _ (by simp [Instr.op, Op.fmt, Instr.a2]) (by simp [Instr.op, Op.fmt, Instr.imm])
theorem smStart : Statement .smStart := fields _ (by simp [Instr.op, Op.fmt, Instr.a2]) (by simp [Instr.op, Op.fmt, Instr.imm])
theorem smReady : Statement .smReady := fields _ (by simp [Instr.op, Op.fmt, Instr.a2]) (by simp [Instr.op, Op.fmt, Instr.imm])
theorem smUnready : Statement .smUnready := fields _ (by simp [Instr.op, Op.fmt, Instr.a2]) (by simp [Instr.op, Op.fmt, Instr.imm])
theorem smStatus : Statement .smStatus := fields _ (by simp [Instr.op, Op.fmt, Instr.a2]) (by simp [Instr.op, Op.fmt, Instr.imm])
theorem smId : Statement .smId := fields _ (by simp [Instr.op, Op.fmt, Instr.a2]) (by simp [Instr.op, Op.fmt, Instr.imm])
theorem smSend (word : Word) : Statement (.smSend word) := fields _ (by simp [Instr.op, Op.fmt, Instr.a2]) (by simp [Instr.op, Op.fmt, Instr.imm])
theorem smRecv (slot : PlayerId) : Statement (.smRecv slot) := fields _ (by simp [Instr.op, Op.fmt, Instr.a2]) (by simp [Instr.op, Op.fmt, Instr.imm])
theorem smDiscover : Statement .smDiscover := fields _ (by simp [Instr.op, Op.fmt, Instr.a2]) (by simp [Instr.op, Op.fmt, Instr.imm])
theorem smRole : Statement .smRole := fields _ (by simp [Instr.op, Op.fmt, Instr.a2]) (by simp [Instr.op, Op.fmt, Instr.imm])
theorem rbAlloc (cap : Word) : Statement (.rbAlloc cap) := fields _ (by simp [Instr.op, Op.fmt, Instr.a2]) (by simp [Instr.op, Op.fmt, Instr.imm])
theorem rbFree : Statement .rbFree := fields _ (by simp [Instr.op, Op.fmt, Instr.a2]) (by simp [Instr.op, Op.fmt, Instr.imm])
theorem rbPush (word : Word) : Statement (.rbPush word) := fields _ (by simp [Instr.op, Op.fmt, Instr.a2]) (by simp [Instr.op, Op.fmt, Instr.imm])
theorem rbPop : Statement .rbPop := fields _ (by simp [Instr.op, Op.fmt, Instr.a2]) (by simp [Instr.op, Op.fmt, Instr.imm])
theorem rbReadBulk (count : Word) : Statement (.rbReadBulk count) := fields _ (by simp [Instr.op, Op.fmt, Instr.a2]) (by simp [Instr.op, Op.fmt, Instr.imm])
theorem rbWriteBulk (words : List Word) : Statement (.rbWriteBulk words) := fields _ (by simp [Instr.op, Op.fmt, Instr.a2]) (by simp [Instr.op, Op.fmt, Instr.imm])
theorem rbLen : Statement .rbLen := fields _ (by simp [Instr.op, Op.fmt, Instr.a2]) (by simp [Instr.op, Op.fmt, Instr.imm])
theorem tbAlloc (cap : Word) : Statement (.tbAlloc cap) := fields _ (by simp [Instr.op, Op.fmt, Instr.a2]) (by simp [Instr.op, Op.fmt, Instr.imm])
theorem tbFree : Statement .tbFree := fields _ (by simp [Instr.op, Op.fmt, Instr.a2]) (by simp [Instr.op, Op.fmt, Instr.imm])
theorem tbPush (tuple : Four Word) : Statement (.tbPush tuple) := fields _ (by simp [Instr.op, Op.fmt, Instr.a2]) (by simp [Instr.op, Op.fmt, Instr.imm])
theorem tbPop : Statement .tbPop := fields _ (by simp [Instr.op, Op.fmt, Instr.a2]) (by simp [Instr.op, Op.fmt, Instr.imm])
theorem tbPeek : Statement .tbPeek := fields _ (by simp [Instr.op, Op.fmt, Instr.a2]) (by simp [Instr.op, Op.fmt, Instr.imm])
theorem tbReadBulk (counts : Four Word) : Statement (.tbReadBulk counts) := fields _ (by simp [Instr.op, Op.fmt, Instr.a2]) (by simp [Instr.op, Op.fmt, Instr.imm])
theorem tbLen : Statement .tbLen := fields _ (by simp [Instr.op, Op.fmt, Instr.a2]) (by simp [Instr.op, Op.fmt, Instr.imm])
theorem scNew (rate : BaudRate) (cap : Word) : Statement (.scNew rate cap) := fields _ (by simp [Instr.op, Op.fmt, Instr.a2]) (by simp [Instr.op, Op.fmt, Instr.imm])
theorem scQueueSend (words : List Word) : Statement (.scQueueSend words) := fields _ (by simp [Instr.op, Op.fmt, Instr.a2]) (by simp [Instr.op, Op.fmt, Instr.imm])
theorem scTick : Statement .scTick := fields _ (by simp [Instr.op, Op.fmt, Instr.a2]) (by simp [Instr.op, Op.fmt, Instr.imm])
theorem scReadBulk (counts : Four Word) : Statement (.scReadBulk counts) := fields _ (by simp [Instr.op, Op.fmt, Instr.a2]) (by simp [Instr.op, Op.fmt, Instr.imm])
theorem scReadAll (counts : Four Word) : Statement (.scReadAll counts) := fields _ (by simp [Instr.op, Op.fmt, Instr.a2]) (by simp [Instr.op, Op.fmt, Instr.imm])
theorem scSkipEmpty : Statement .scSkipEmpty := fields _ (by simp [Instr.op, Op.fmt, Instr.a2]) (by simp [Instr.op, Op.fmt, Instr.imm])
theorem scId : Statement .scId := fields _ (by simp [Instr.op, Op.fmt, Instr.a2]) (by simp [Instr.op, Op.fmt, Instr.imm])
theorem scBlock (flag : Bool) : Statement (.scBlock flag) := fields _ (by simp [Instr.op, Op.fmt, Instr.a2]) (by simp [Instr.op, Op.fmt, Instr.imm])
theorem scLeave : Statement .scLeave := fields _ (by simp [Instr.op, Op.fmt, Instr.a2]) (by simp [Instr.op, Op.fmt, Instr.imm])
theorem isrXferDone : Statement .isrXferDone := fields _ (by simp [Instr.op, Op.fmt, Instr.a2]) (by simp [Instr.op, Op.fmt, Instr.imm])

end Sys2Proof.Laws.HeaderFields
end

