-- ==== Sys2Proof/Laws/Runs.lean ====
section
/-! SUPPORT. What a step of an infinite run can do, and what the premises of 43_session.md R252 give. -/

namespace Sys2Proof.Machine

variable {run : Nat → State}

/-- What FG sends between two steps changes nothing but the port. -/
theorem IsRun.next_eq (h : IsRun run) (n : Nat) :
    ∃ t, agentStep (run n) = .next t ∧
      { run (n + 1) with port := t.port, env := t.env, tick := t.tick } = t := by
  obtain ⟨t, sent, e, k, ht, hn⟩ := h n
  exact ⟨t, ht, by rw [hn]; rfl⟩

theorem agentStep_linkComplete {s : State} (h : s.env.turn = .linkComplete) :
    agentStep s = .next s.linkComplete := by simp [agentStep, h]

/-- A completion with IRQ = 1 leaves an interrupt pending (20_memory.md R92). -/
theorem IsRun.completion_pends (h : IsRun run) {n : Nat} (ht : (run n).env.turn = .linkComplete)
    (ha : (run n).xferActive = true) (hi : (run n).sio.irq = true) :
    (run (n + 1)).irqPending = true := by
  obtain ⟨t, sent, e, k, hs, hn⟩ := h n
  rw [agentStep_linkComplete ht] at hs
  cases hs
  simp [hn, State.fgSends, State.linkComplete, State.completeTransfer, ha, hi]

/-- Where LINK completes each transfer and IRQ stays 1, a transfer in progress leads to a pending
interrupt. -/
theorem LinkCompletes.interrupt_pends (h : IsRun run) (hl : LinkCompletes run) {n : Nat}
    (ha : (run n).xferActive = true) (hi : ∀ m, n ≤ m → (run m).sio.irq = true) :
    ∃ m, n < m ∧ (run m).irqPending = true := by
  obtain ⟨m, hm, hact, ht⟩ := hl n ha
  exact ⟨m + 1, Nat.lt_succ_of_le hm, h.completion_pends ht (hact m hm le_rfl) (hi m hm)⟩

end Sys2Proof.Machine
end

