-- ==== Sys2Proof/Tests/Slice0.lean ====
section
/-! SUPPORT. Tests: the well-formedness smoke, every constructor's word written out from
30_encoding.md R111 to R117, vectors of 95_test_vectors.md (named in each comment), and for each
obligation with hypotheses states that meet them. -/

namespace Sys2Proof.Tests

open Sys2Proof.Machine

/-! ### Well-formedness -/

/-- A payload of 65536 words has no encoding (R112: IMM16 is 16 bits). -/
theorem test_wf_refuses_long_write : ¬ (Instr.rbWriteBulk (List.replicate 65536 0)).wf := by
  show ¬ (List.replicate 65536 (0 : Word)).length < 2 ^ 16
  rw [List.length_replicate]; decide

theorem test_wf_refuses_long_queue : ¬ (Instr.scQueueSend (List.replicate 65536 0)).wf := by
  show ¬ (List.replicate 65536 (0 : Word)).length < 2 ^ 16
  rw [List.length_replicate]; decide

/-- One of 65535 words has (boundary). -/
theorem test_wf_accepts_longest : (Instr.rbWriteBulk (List.replicate 65535 0)).wf := by
  show (List.replicate 65535 (0 : Word)).length < 2 ^ 16
  rw [List.length_replicate]; decide

/-! ### Decoding: words written out from OPC, RSV, A2, IMM16, the low half first -/

theorem test_decode_sm :
    decode [0x0000, 0x0103] = .instr (.smInit 3) [] ∧ decode [0x0000, 0x0200] = .instr .smStart [] ∧
    decode [0x0000, 0x0300] = .instr .smReady [] ∧ decode [0x0000, 0x0400] = .instr .smUnready [] ∧
    decode [0x0000, 0x0500] = .instr .smStatus [] ∧ decode [0x0000, 0x0600] = .instr .smId [] ∧
    decode [0xFFFF, 0x0700] = .instr (.smSend 0xFFFF) [] ∧
    decode [0x0000, 0x0802] = .instr (.smRecv .p2) [] ∧
    decode [0x0000, 0x0900] = .instr .smDiscover [] ∧ decode [0x0000, 0x0A00] = .instr .smRole [] := by
  decide

theorem test_decode_rb :
    decode [0x0004, 0x1000] = .instr (.rbAlloc 4) [] ∧ decode [0x0000, 0x1100] = .instr .rbFree [] ∧
    decode [0x1234, 0x1200] = .instr (.rbPush 0x1234) [] ∧
    decode [0x0000, 0x1300] = .instr .rbPop [] ∧
    decode [0x0002, 0x1400] = .instr (.rbReadBulk 2) [] ∧
    decode [0x0002, 0x1500, 0x000A, 0x0014, 0x7777] = .instr (.rbWriteBulk [10, 20]) [0x7777] ∧
    decode [0x0000, 0x1500] = .instr (.rbWriteBulk []) [] ∧
    decode [0x0000, 0x1600] = .instr .rbLen [] := by decide

theorem test_decode_tb :
    decode [0x000A, 0x2000] = .instr (.tbAlloc 10) [] ∧ decode [0x0000, 0x2100] = .instr .tbFree [] ∧
    decode [0x0000, 0x2200, 30, 130, 230, 330] = .instr (.tbPush ⟨30, 130, 230, 330⟩) [] ∧
    decode [0x0000, 0x2300] = .instr .tbPop [] ∧ decode [0x0000, 0x2400] = .instr .tbPeek [] ∧
    decode [0x0000, 0x2500, 1, 3, 0, 2] = .instr (.tbReadBulk ⟨1, 3, 0, 2⟩) [] ∧
    decode [0x0000, 0x2600] = .instr .tbLen [] := by decide

theorem test_decode_sc :
    decode [0x0004, 0x3003] = .instr (.scNew 3 4) [] ∧
    decode [0x0001, 0x3100, 0x1234] = .instr (.scQueueSend [0x1234]) [] ∧
    decode [0x0000, 0x3200] = .instr .scTick [] ∧
    decode [0x0000, 0x3300, 4, 4, 4, 4] = .instr (.scReadBulk ⟨4, 4, 4, 4⟩) [] ∧
    decode [0x0000, 0x3400, 1, 2, 1, 1] = .instr (.scReadAll ⟨1, 2, 1, 1⟩) [] ∧
    decode [0x0000, 0x3500] = .instr .scSkipEmpty [] ∧ decode [0x0000, 0x3600] = .instr .scId [] ∧
    decode [0x0000, 0x3701] = .instr (.scBlock true) [] ∧
    decode [0x0000, 0x3700] = .instr (.scBlock false) [] ∧
    decode [0x0000, 0x3800] = .instr .scLeave [] := by decide

theorem test_decode_isr : decode [0x0000, 0x4000] = .instr .isrXferDone [] := by decide

/-- X1 to X7, X9, X10: the refused headers. -/
theorem test_decode_refusals :
    decode [0x0000, 0x0000] = .illegal .unknownOpcode [] ∧
    decode [0x1234, 0x1204] = .illegal .reservedBits [] ∧
    decode [0x0000, 0x1301] = .illegal .a2NotZero [] ∧
    decode [0x0001, 0x1300] = .illegal .immNotZero [] ∧
    decode [0x0000, 0x3702] = .illegal .flagBit [] ∧
    portDecode .session [0x0000, 0x4000] = .illegal .notFromForeground [] ∧
    portDecode .standalone [0x0000, 0x3200] = .illegal .wrongConfig [] ∧
    decode [0x0000, 0xF000] = .illegal .unknownOpcode [] ∧
    decode [0x0000, 0x1700] = .illegal .unknownOpcode [] := by decide

/-- X8: a refused command's payload is consumed; the next header is at halfword 5. -/
theorem test_decode_payload_consumed :
    portDecode .session [0x0003, 0x1500, 1, 2, 3, 0x0000, 0x3600] =
      .illegal .wrongConfig [0x0000, 0x3600] := by decide

/-- A command that is not wholly on the port waits (log 2). -/
theorem test_decode_incomplete : decode [0x0003, 0x1500, 1, 2] = .incomplete := by decide

/-- The opcode table's bits as the host numbers them. -/
theorem test_table_word : decodeTableWord 32 0x30030004 = some (.scNew 3 4) := by decide

theorem test_fetch_word :
    (State.reset.withFetchWord 32 0x1200BEEF).awaitsCommand ∧
    (State.reset.withFetchWord 32 0x1200BEEF).port = [0xBEEF, 0x1200] ∧
    (State.reset.withFetchWord 32 0x1200BEEF).cfg.config = .standalone := by decide

/-! ### Small states -/

/-- The draws of a step of FG: peers ready, everything else 0. -/
def fgEnv : Env := ⟨.fg, true, 0, false, false, false, ⟨0, 0, 0, 0⟩⟩
/-- The draws of a step of the interrupt agent. -/
def isrEnv : Env := { fgEnv with turn := .isr }

/-- A standalone port with CAP_MAX = 16. -/
def standaloneCfg : Params :=
  ⟨16, .standalone, 0x8000, 0x04000000, .p0, ⟨false, false, false, false⟩⟩
/-- A unit at a slot, with one peer: slot 1's on the parent, slot 0's on a child. -/
def sessionCfg (pos : PlayerId) : Params :=
  ⟨16, .session, 0x8000, 0x04000000, pos,
    ⟨decide (pos ≠ .p0), decide (pos = .p0), false, false⟩⟩

def bare : State := State.resetWith standaloneCfg fgEnv

/-- RB of capacity c with its read cursor at r, holding the given words. -/
def rbWith (s : State) (c r : Nat) (ws : List Word) : State :=
  { s with
    rb  := ⟨true, c, r, (r + ws.length) % (2 * c)⟩
    rbm := ws.zipIdx.foldl (fun m x => m.insert ((r + x.2) % c) x.1) [] }

/-- TB of capacity c with its read cursor at r, holding the given tuples. -/
def tbWith (s : State) (c r : Nat) (ts : List (Four Word)) : State :=
  { s with
    tb  := ⟨true, c, r, (r + ts.length) % (2 * c)⟩
    tbm := ts.zipIdx.foldl (fun m x =>
      (((m.insert ((r + x.2) % c) x.1.l0).insert (c + (r + x.2) % c) x.1.l1).insert
        (2 * c + (r + x.2) % c) x.1.l2).insert (3 * c + (r + x.2) % c) x.1.l3) [] }

/-- After reset, with a slot. -/
def fresh (pos : PlayerId) : State := State.resetWith (sessionCfg pos) fgEnv

/-- After SM.INIT 3, in multiplayer mode. -/
def inited (pos : PlayerId) : State :=
  { fresh pos with
    sio := ⟨3, false, 0, 2, false, false⟩, smInited := true, smRate := 3,
    smRole := (sessionCfg pos).roleHw }

/-- An ACTIVE session with buffers of capacity 4. -/
def active (pos : PlayerId) (ws : List Word) (ts : List (Four Word)) : State :=
  { tbWith (rbWith (inited pos) 4 0 ws) 4 0 ts with
    sio := ⟨3, false, 0, 2, true, false⟩, scState := .active, scId := pos, scRate := 3,
    isrInstalled := true }

/-- The response after a command and then the given steps. -/
def respAfter (i : Instr) (es : List Env) (s : State) : Option Response :=
  match exec i s with
  | .next t =>
    match play es t with
    | .next u => u.resp
    | _ => none
  | _ => none

/-- A test of the state after a command and then the given steps. -/
def after (i : Instr) (es : List Env) (s : State) (p : State → Bool) : Bool :=
  match exec i s with
  | .next t =>
    match play es t with
    | .next u => p u
    | _ => false
  | _ => false

/-! ### RB vectors -/

/-- B2, B3, B4 and the smallest capacity. -/
theorem test_rb_alloc :
    respAfter (.rbAlloc 0) [] bare = some ⟨.invalidCapacity, 0, []⟩ ∧
    respAfter (.rbAlloc 17) [] bare = some ⟨.invalidCapacity, 0, []⟩ ∧
    respAfter (.rbAlloc 4) [] (rbWith bare 4 0 []) = some ⟨.alreadyInitialized, 0, []⟩ ∧
    after (.rbAlloc 1) [] bare (fun t => decide (t.rb = ⟨true, 1, 0, 0⟩)) = true := by decide

/-- B16. -/
theorem test_rb_free :
    respAfter .rbFree [] (rbWith bare 4 0 [9]) = some ⟨.ok, 0, []⟩ ∧
    after .rbFree [] (rbWith bare 4 0 [9]) (fun t => respAfter .rbLen [] t ==
      some ⟨.noBuffer, 0, []⟩) = true := by decide

/-- R186's example, and B8's wrap of the cursor modulo 2. -/
theorem test_rb_push :
    after (.rbPush 7) [] (rbWith bare 4 0 [1, 2, 3])
      (fun t => decide (t.rb.w = 4 ∧ t.rbm.lookup 3 = some 7)) = true ∧
    after (.rbPush 7) [] (rbWith bare 1 1 [])
      (fun t => decide (t.rb.w = 0 ∧ t.rbm.lookup 0 = some 7)) = true := by decide

/-- B6 and R186: a full buffer. -/
theorem test_rb_push_full :
    respAfter (.rbPush 6) [] (rbWith bare 1 0 [5]) = some ⟨.full, 0, []⟩ := by decide

/-- B1, R187's example, B10: 0xFFFF is an ordinary word. -/
theorem test_rb_pop :
    respAfter .rbPop [] bare = some ⟨.noBuffer, 0, []⟩ ∧
    respAfter .rbPop [] (rbWith bare 4 0 [10, 20]) = some ⟨.ok, 10, []⟩ ∧
    respAfter .rbPop [] (rbWith bare 4 0 []) = some ⟨.empty, 0, []⟩ ∧
    respAfter .rbPop [] (rbWith bare 4 7 [0xFFFF]) = some ⟨.ok, 0xFFFF, []⟩ := by decide

/-- R188's example and B13's split copy. -/
theorem test_rb_read_bulk :
    respAfter (.rbReadBulk 2) [] (rbWith bare 4 0 [10, 20, 30, 40]) = some ⟨.ok, 2, [10, 20]⟩ ∧
    respAfter (.rbReadBulk 4) [] (rbWith bare 4 3 [1, 2, 3]) = some ⟨.ok, 3, [1, 2, 3]⟩ ∧
    respAfter (.rbReadBulk 0) [] (rbWith bare 4 0 [1]) = some ⟨.ok, 0, []⟩ := by decide

/-- E1 row 2, and B12's wrap of the backing index. -/
theorem test_rb_write_bulk :
    respAfter (.rbWriteBulk [10, 20, 30, 40, 50]) [] (rbWith bare 4 0 []) = some ⟨.ok, 4, []⟩ ∧
    after (.rbWriteBulk [1, 2, 3]) [] (rbWith bare 4 3 [])
      (fun t => decide (t.rbm = [(0, 2), (1, 3), (3, 1)] ∧ t.rb.w = 6)) = true := by decide

/-- B14: the words written are kept. -/
theorem test_rb_write_bulk_partial :
    after (.rbWriteBulk [1, 2, 3]) [] (rbWith bare 4 0 [9, 8])
      (fun t => decide (t.rbHolds [9, 8, 1, 2])) = true := by decide

/-- B15 and B17: occ = (1 - 3) mod 4 = 2. -/
theorem test_rb_len :
    respAfter .rbLen [] (rbWith bare 4 0 [9, 8]) = some ⟨.ok, 2, []⟩ ∧
    respAfter .rbLen [] (rbWith bare 2 3 [9, 8]) = some ⟨.ok, 2, []⟩ := by decide

/-! ### TB vectors; a = (1,11,21,31), b = (2,12,22,32), c = (3,13,23,33) -/

/-- T11 and TB.ALLOC 10. -/
theorem test_tb_alloc :
    respAfter (.tbAlloc 4) [] (tbWith bare 4 0 [⟨1, 11, 21, 31⟩]) =
      some ⟨.alreadyInitialized, 0, []⟩ ∧
    after (.tbAlloc 10) [] bare (fun t => decide (t.tb = ⟨true, 10, 0, 0⟩)) = true := by decide

theorem test_tb_free :
    after .tbFree [] (tbWith bare 4 0 [⟨1, 11, 21, 31⟩])
      (fun t => decide (t.tb = ⟨false, 0, 0, 0⟩)) = true := by decide

/-- T9: addr(p, 2) = 2p. -/
theorem test_tb_push :
    after (.tbPush ⟨3, 13, 23, 33⟩) [] (tbWith bare 2 1 [⟨2, 12, 22, 32⟩])
      (fun t => decide (t.tbm.lookup 0 = some 3 ∧ t.tbm.lookup 2 = some 13 ∧
        t.tbm.lookup 4 = some 23 ∧ t.tbm.lookup 6 = some 33 ∧ t.tb.w = 3)) = true := by decide

/-- T8. -/
theorem test_tb_push_full :
    respAfter (.tbPush ⟨3, 13, 23, 33⟩) [] (tbWith bare 2 0 [⟨1, 11, 21, 31⟩, ⟨2, 12, 22, 32⟩]) =
      some ⟨.full, 0, []⟩ := by decide

/-- T7. -/
theorem test_tb_pop :
    after .tbPop [] (tbWith bare 4 0 [⟨1, 11, 21, 31⟩, ⟨2, 12, 22, 32⟩, ⟨3, 13, 23, 33⟩])
      (fun t => decide (t.resp = some ⟨.ok, 0, [1, 11, 21, 31]⟩ ∧ t.tb.r = 1 ∧ t.tb.occ = 2)) =
      true := by decide

/-- T1, T2, T3. -/
theorem test_tb_peek :
    respAfter .tbPeek [] bare = some ⟨.noBuffer, 0, []⟩ ∧
    respAfter .tbPeek [] (tbWith bare 4 0 []) = some ⟨.empty, 0, []⟩ ∧
    after .tbPeek [] (tbWith bare 4 0 [⟨1, 11, 21, 31⟩])
      (fun t => decide (t.resp = some ⟨.ok, 0, [1, 11, 21, 31]⟩ ∧ t.tb.occ = 1)) = true := by decide

/-- T4: m = 0, nothing consumed. -/
theorem test_tb_read_bulk_zero :
    after (.tbReadBulk ⟨1, 3, 0, 2⟩) []
      (tbWith bare 4 0 [⟨1, 11, 21, 31⟩, ⟨2, 12, 22, 32⟩, ⟨3, 13, 23, 33⟩])
      (fun t => decide (t.resp = some ⟨.ok, 0, [1, 3, 0, 2, 1, 11, 12, 13, 31, 32]⟩ ∧ t.tb.r = 0)) =
      true := by decide

/-- T5: m = 2, and two slots get the third tuple's word, which stays queued. -/
theorem test_tb_read_bulk_unequal :
    after (.tbReadBulk ⟨2, 3, 5, 2⟩) []
      (tbWith bare 4 0 [⟨1, 11, 21, 31⟩, ⟨2, 12, 22, 32⟩, ⟨3, 13, 23, 33⟩])
      (fun t => decide (t.resp =
        some ⟨.ok, 0, [2, 3, 3, 2, 1, 2, 11, 12, 13, 21, 22, 23, 31, 32]⟩ ∧ t.tb.r = 2)) =
      true := by decide

/-- T12. -/
theorem test_tb_len :
    respAfter .tbLen [] (tbWith bare 4 0 [⟨1, 11, 21, 31⟩, ⟨2, 12, 22, 32⟩]) =
      some ⟨.ok, 2, []⟩ := by decide

/-! ### SM vectors -/

/-- M3 and M4: the role. -/
theorem test_sm_init :
    respAfter (.smInit 3) [fgEnv, fgEnv, fgEnv, fgEnv] (fresh .p0) = some ⟨.ok, 0, []⟩ ∧
    respAfter (.smInit 1) [fgEnv, fgEnv, fgEnv, fgEnv] (fresh .p2) = some ⟨.ok, 1, []⟩ := by decide

/-- M2: ERR drawn 1 at the mode switch; the register writes remain. -/
theorem test_sm_init_fails :
    after (.smInit 3) [fgEnv, { fgEnv with err := true }, fgEnv] (fresh .p0)
      (fun t => decide (t.resp = some ⟨.failedOkayCheck, 0, []⟩ ∧ t.rcnt = 0 ∧ t.sio.mode = 2 ∧
        t.sio.baud = 3 ∧ t.smInited = false)) = true := by decide

/-- M5 and M7: BUSY, and ERR after a transfer began. -/
theorem test_sm_start :
    respAfter .smStart [] { inited .p0 with xferActive := true } =
      some ⟨.alreadyInProgress, 0, []⟩ ∧
    after .smStart [fgEnv, fgEnv, fgEnv, fgEnv]
      { inited .p0 with sio := ⟨3, true, 0, 2, false, false⟩ }
      (fun t => decide (t.resp = some ⟨.failedOkayCheck, 0, []⟩ ∧ t.xferActive = true ∧
        t.recv = fourSentinels)) = true := by decide

/-- M8: a child starts nothing. -/
theorem test_sm_start_child :
    after .smStart [fgEnv, fgEnv] (inited .p1)
      (fun t => decide (t.resp = some ⟨.ok, 0, []⟩ ∧ t.xferActive = false)) = true := by decide

/-- M10: ready again after SM.UNREADY. -/
theorem test_sm_ready :
    after .smReady [fgEnv, fgEnv] { inited .p0 with rcnt := 0x8000 }
      (fun t => decide (t.resp = some ⟨.ok, 0, []⟩ ∧ t.rcnt = 0 ∧ t.sio.mode = 2 ∧ t.sio.baud = 3 ∧
        t.localReady = true)) = true := by decide

/-- M9's SM.UNREADY; and one in OTHER mode with id_valid 1 (R153: `id_valid <- 0`). -/
theorem test_sm_unready :
    after .smUnready [] { inited .p0 with idValid := true }
      (fun t => decide (t.rcnt = 0x8000 ∧ t.localReady = false ∧ t.idValid = false ∧
        t.sio.mode = 2)) = true ∧
    after .smUnready [] { inited .p0 with rcnt := 0x8000, idValid := true }
      (fun t => decide (t.resp = some ⟨.ok, 0, []⟩ ∧ t.idValid = false)) = true := by decide

/-- M11 and M12: the packed VALUE. -/
theorem test_sm_status :
    respAfter .smStatus [fgEnv]
      { inited .p0 with sio := ⟨3, false, 0, 2, true, false⟩, idValid := true } =
      some ⟨.ok, 0x03C2, []⟩ ∧
    respAfter .smStatus [fgEnv]
      { inited .p2 with sio := ⟨1, false, 0, 2, false, false⟩, idValid := true } =
      some ⟨.ok, 0x00CB, []⟩ := by decide

/-- SM.STATUS in OTHER mode: SI, SD, ID and ERR are the draws, here all 1 (10_state.md R34). -/
theorem test_sm_status_other :
    respAfter .smStatus [fgEnv]
      { inited .p0 with rcnt := 0x8000, env := { fgEnv with garbage := 0xFFFF, peersReady := false } } =
      some ⟨.ok, 0x019F, []⟩ := by decide

/-- R156's example, and M15. -/
theorem test_sm_id :
    respAfter .smId [] { inited .p2 with idValid := true } = some ⟨.ok, 2, []⟩ ∧
    respAfter .smId [] (active .p0 [] []) = some ⟨.notOwner, 0, []⟩ := by decide

/-- M14. -/
theorem test_sm_send :
    after (.smSend 0xFFFF) [] (inited .p0) (fun t => decide (t.send = 0xFFFF)) = true := by decide

/-- M13. -/
theorem test_sm_recv :
    respAfter (.smRecv .p1) [] { inited .p0 with recv := ⟨0xFFFF, 0x42, 0xFFFF, 0xFFFF⟩ } =
      some ⟨.ok, 0x42, []⟩ := by decide

/-- R154's example, and Z1. -/
theorem test_sm_role :
    respAfter .smRole [] (inited .p1) = some ⟨.ok, 1, []⟩ ∧
    respAfter .smRole [] (fresh .p1) = some ⟨.notInitialized, 0, []⟩ := by decide

/-- R159's example: a parent's discovery, two iterations with a completion between them. -/
theorem test_sm_discover :
    respAfter .smDiscover
      (List.replicate 12 fgEnv ++ [{ fgEnv with turn := .linkComplete }] ++ List.replicate 7 fgEnv)
      (inited .p0) = some ⟨.ok, 0, []⟩ := by decide +kernel

/-! ### SC vectors -/

/-- S2 and S3. -/
theorem test_sc_new_refused :
    respAfter (.scNew 3 0) [] (fresh .p0) = some ⟨.invalidCapacity, 0, []⟩ ∧
    respAfter (.scNew 3 4) [] (active .p0 [] []) = some ⟨.alreadyInitialized, 0, []⟩ := by decide

/-- P4 step 1: SC.NEW on the parent, to ACTIVE. -/
theorem test_sc_new :
    after (.scNew 3 4)
      (List.replicate 16 fgEnv ++ [{ fgEnv with turn := .linkComplete }] ++ List.replicate 10 fgEnv)
      (fresh .p0)
      (fun t => decide (t.resp = some ⟨.ok, 0, []⟩ ∧ t.scState = .active ∧ t.scId = .p0 ∧
        t.sio.irq = true ∧ t.rb = ⟨true, 4, 0, 0⟩ ∧ t.tb = ⟨true, 4, 0, 0⟩ ∧
        t.xferActive = true)) = true := by decide +kernel

/-- P4 step 2 and S12. -/
theorem test_sc_queue_send :
    respAfter (.scQueueSend [0x1234]) [fgEnv, fgEnv, fgEnv] (active .p0 [] []) =
      some ⟨.ok, 1, []⟩ ∧
    after (.scQueueSend []) [fgEnv, fgEnv, fgEnv] { active .p0 [] [] with rcnt := 0x8000 }
      (fun t => decide (t.localReady = true ∧ t.resp = some ⟨.ok, 0, []⟩)) = true := by decide

/-- S7 and S8. -/
theorem test_sc_tick :
    respAfter .scTick [] { active .p0 [] [] with xferActive := true } = some ⟨.ok, 1, []⟩ ∧
    respAfter .scTick [fgEnv, fgEnv, { fgEnv with peersReady := false }] (active .p0 [] []) =
      some ⟨.ok, 2, []⟩ := by decide

/-- R244's example. -/
theorem test_sc_read_bulk :
    respAfter (.scReadBulk ⟨4, 4, 4, 4⟩) []
      (active .p0 [] [⟨0xFFFF, 0x42, 0xFFFF, 0xFFFF⟩, ⟨0x1234, 0x42, 0xFFFF, 0xFFFF⟩]) =
      some ⟨.ok, 0, [2, 2, 2, 2, 0xFFFF, 0x1234, 0x42, 0x42, 0xFFFF, 0xFFFF, 0xFFFF, 0xFFFF]⟩ := by
  decide

/-- S4 and S5. -/
theorem test_sc_read_all :
    respAfter (.scReadAll ⟨1, 2, 1, 1⟩) [] (active .p0 [] []) = some ⟨.mismatchedLengths, 0, []⟩ ∧
    respAfter (.scReadAll ⟨0, 0, 0, 0⟩) [] (active .p0 [] []) = some ⟨.ok, 0, [0, 0, 0, 0]⟩ := by
  decide

/-- S9 and S10. -/
theorem test_sc_skip_empty :
    respAfter .scSkipEmpty [fgEnv, fgEnv]
      (active .p0 [] [⟨0x1234, 0xFFFF, 0xFFFF, 0xFFFF⟩, ⟨0x1235, 1, 0xFFFF, 0xFFFF⟩]) =
      some ⟨.ok, 1, []⟩ ∧
    respAfter .scSkipEmpty [] (active .p0 [] []) = some ⟨.ok, 0, []⟩ := by decide

/-- S13 and S1's status. -/
theorem test_sc_id :
    respAfter .scId [] (active .p2 [] []) = some ⟨.ok, 2, []⟩ ∧
    respAfter .scId [] (fresh .p2) = some ⟨.notActive, 0, []⟩ := by decide

/-- S14. -/
theorem test_sc_block :
    after (.scBlock true) [] (active .p0 [] [])
      (fun t => decide (t.blockFlag = true ∧ t.localReady = true)) = true := by decide

/-- S15. -/
theorem test_sc_leave :
    after .scLeave [fgEnv, fgEnv] (active .p0 [5] [])
      (fun t => decide (t.scState = .left ∧ t.sio.irq = false ∧ t.rb.present = false ∧
        t.tb.present = false ∧ respAfter .scId [] t = some ⟨.notActive, 0, []⟩)) = true := by decide

/-! ### Handler vectors -/

/-- I2. -/
theorem test_isr_push_and_pop :
    after .isrXferDone (List.replicate 6 isrEnv)
      { active .p0 [0x1234] [] with recv := ⟨0xFFFF, 0x42, 0xFFFF, 0xFFFF⟩ }
      (fun t => decide (t.tbHolds [⟨0xFFFF, 0x42, 0xFFFF, 0xFFFF⟩] ∧ t.rbHolds [] ∧
        t.send = 0x1234 ∧ t.isr = .idle)) = true := by decide

/-- I4: the block policy. -/
theorem test_isr_block :
    after .isrXferDone (List.replicate 7 isrEnv)
      { active .p1 [] [] with recv := ⟨1, 0xFFFF, 0xFFFF, 0xFFFF⟩, blockFlag := true }
      (fun t => decide (t.tbHolds [⟨1, 0xFFFF, 0xFFFF, 0xFFFF⟩] ∧ t.send = 0xFFFF ∧
        t.rcnt = 0x8000 ∧ t.localReady = false)) = true := by decide

/-- I5: with no handler installed, taking the interrupt only clears irq_pending. -/
theorem test_interrupt_without_handler :
    stepUnder isrEnv { inited .p0 with irqPending := true } =
      .next { inited .p0 with env := isrEnv } := by rfl

/-- I7: a completion with IRQ = 0. -/
theorem test_completion_without_irq :
    ({ inited .p0 with xferActive := true, sendLatch := 0xAB }.linkComplete.irqPending = false) ∧
    ({ inited .p0 with xferActive := true, sendLatch := 0xAB }.linkComplete.recv =
      ⟨0xAB, 0, 0xFFFF, 0xFFFF⟩) ∧
    ({ inited .p0 with xferActive := true }.linkComplete.idValid = true) := by decide

/-! ### The bus and the response word -/

theorem test_bus :
    (inited .p0).busRead 0x04000128 8 = .error .lrWidth ∧
    (inited .p0).busRead 0x04000129 16 = .error .lrMisaligned ∧
    (inited .p0).busRead 0x0400012C 16 = .error .lrUnmapped ∧
    (inited .p0).busRead 0x0400012A 16 = .error .lrWriteOnly ∧
    (inited .p0).busRead 0x04000134 16 = .ok 0 := by decide

/-- E1 row 3's status word, 0x00020000, and EMPTY's. -/
theorem test_status_word :
    (Response.mk .ok 2 [10, 20]).statusWord = 0x00020000 ∧
    (Response.mk .empty 0 []).statusWord = 0x00000006 := by decide

/-! ### Witnesses: states and operands that meet the hypotheses of the obligations, clause by clause

`witness_<Name>` is for `Obligations.<Name>`. A clause with no hypothesis has none. -/

theorem witness_DecodeOfEncode :
    (Instr.rbWriteBulk (List.replicate 65535 0)).wf ∧ (Instr.scQueueSend []).wf ∧
      (Instr.smInit 3).wf :=
  ⟨test_wf_accepts_longest, by decide, trivial⟩

theorem witness_EncodeOfDecode :
    decode [0x0001, 0x1500, 0x000A, 0x3600] = .instr (.rbWriteBulk [10]) [0x3600] := by decide

/-- A reserved opcode; each way a header is broken; headers that are not; a state that refuses. -/
theorem witness_HeaderChecks :
    Op.ofCode (headerOpc 0x00000000) = none ∧
    (Op.ofCode (headerOpc 0x120412AA) = some .rbPush ∧ headerRsv 0x120412AA ≠ 0) ∧
    (Op.ofCode (headerOpc 0x25010000) = some .tbReadBulk ∧
      [1, 2, 3, (4 : Word)].length = Op.tbReadBulk.fmt.payloadLen (headerImm 0x25010000) ∧
      headerA2 0x25010000 ≠ 0) ∧
    (Op.ofCode (headerOpc 0x01000001) = some .smInit ∧ headerImm 0x01000001 ≠ 0) ∧
    (Op.ofCode (headerOpc 0x37020000) = some .scBlock ∧ (headerA2 0x37020000)[1] = true) ∧
    Op.ofCode (headerOpc 0x40000000) = some .isrXferDone ∧
    (Op.ofCode (headerOpc 0x16000000) = some .rbLen ∧ Op.rbLen.config ≠ .session) ∧
    (Op.ofCode (headerOpc 0x31000001) = some .scQueueSend ∧
      [(7 : Word)].length = Op.scQueueSend.fmt.payloadLen (headerImm 0x31000001) ∧
      headerRsv 0x31000001 = 0 ∧ headerA2 0x31000001 = 0 ∧ Op.scQueueSend.config = .session) ∧
    { bare with port := [0x0000, 0x3600, 9] }.awaitsCommand ∧
    portDecode bare.cfg.config [0x0000, 0x3600, 9] = .illegal .wrongConfig [9] := by decide

theorem witness_ReservedOpcodesRefused :
    { bare with port := [0x0005, 0xFF03, 9] }.awaitsCommand ∧
    Op.ofCode (headerOpc 0xFF030005) = none ∧
    [(0x0005 : Word), 0xFF03, 9] = headerHalves 0xFF030005 ++ [9] := by decide

theorem witness_StepRunsDecoded :
    { bare with port := [0x0000, 0x1300, 5] }.awaitsCommand ∧
    decode [0x0000, 0x1300, 5] = .instr .rbPop [5] ∧ Instr.rbPop.op ≠ .isrXferDone ∧
    Instr.rbPop.op.config = bare.cfg.config ∧
    ({ active .p0 [] [] with env := isrEnv, isr := .entered }.env.turn = .isr) := by decide

/-- Draws of reset that put RCNT in an alternate mode and every other register at a value of its own. -/
def oddDraws : ResetDraws :=
  ⟨0xC0DE, 0x1234, ⟨1, 2, 3, 4⟩, 0x5678, 0xF, true, 2, .child, .p3, 1⟩

/-- The statement ranges over every value of what R341 leaves to draws; its other hypotheses. -/
theorem witness_CommandsAfterReset :
    (State.resetDrawing standaloneCfg fgEnv oddDraws).siocntRead[15] = true ∧
    (State.resetDrawing standaloneCfg fgEnv oddDraws).rcnt = 0xC0DE ∧
    Instr.smRole.op ∈ [Op.smRole] ∧ capacityLegal standaloneCfg 1 ∧ capacityLegal standaloneCfg 16 ∧
    ¬ capacityLegal standaloneCfg 17 ∧ capacityLegal Params.default 32767 := by decide

theorem witness_InvariantAtReset :
    Params.default.wf ∧ { standaloneCfg with capMax := 1 }.wf ∧ (sessionCfg .p3).wf := by decide

/-- The invariant of a state in CONFIG = SESSION from its decidable parts. -/
theorem session_inv (s : State) (hp : s.phaseOk) (hk : ∀ k, s.fg = .skipPop k → ¬ s.tb.isEmpty)
    (hl : ∀ l ∈ s.fg.readAllLocals,
      l.filled < l.len ∧ l.len < 2 ^ 16 ∧ l.out.l0.length = l.filled ∧ l.out.l1.length = l.filled ∧
        l.out.l2.length = l.filled ∧ l.out.l3.length = l.filled)
    (hv : ∀ v ∈ s.fg.sioLocal, s.sio.store v = s.sio) (hw : s.cfg.wf) (hc : s.cfg.config = .session)
    (hr : s.rb.present = true → s.rb.legal s.cfg.capMax)
    (hra : s.rb.present = false → s.rb = Queue.absent)
    (hrw : s.rb.present = true → s.rbContents.all Option.isSome = true)
    (hrm : s.rbm.wf ∧ ∀ c ∈ s.rbm, c.1 < s.rbmSize)
    (ht : s.tb.present = true → s.tb.legal s.cfg.capMax)
    (hta : s.tb.present = false → s.tb = Queue.absent)
    (htw : s.tb.present = true →
      ∀ p ∈ [PlayerId.p0, .p1, .p2, .p3], (s.tbLane p).all Option.isSome = true)
    (htm : s.tbm.wf ∧ ∀ c ∈ s.tbm, c.1 < s.tbmSize)
    (hi : (s.fg ≠ .idle → s.fg.inInit = false → s.smInited = true) ∧
      (s.scState = .active → s.smInited = true) ∧
      (s.isr ≠ .idle → s.isrInstalled = true) ∧ (s.sio.irq = true → s.isrInstalled = true) ∧
      (s.fg = .leaveTeardown → s.sio.irq = false) ∧ (s.fg.rcntCleared = true → s.rcnt[15] = false) ∧
      (s.fg.modeSet = true → s.sio.mode = 2) ∧
      (s.fg.inLoop = true → s.seenComplete = true → s.idValid = true) ∧
      (s.scState = .active → s.scId = s.cfg.posHw) ∧ (s.smInited = true → s.smRole = s.cfg.roleHw) ∧
      (s.xferActive = true → s.recv = ⟨sentinel, sentinel, sentinel, sentinel⟩))
    (hf : ∀ id ∈ s.fg.foundId, id = s.cfg.posHw.toBits)
    (hn : ∀ l ∈ s.fg.newLocals,
      capacityLegal s.cfg l.cap ∧ (l.prior = .uninit ∨ l.prior = .left)) : s.Inv := by
  obtain ⟨h1, h2, h3, h4, h5, h6, h7, h8, h9, h10, h11⟩ := hi
  exact ⟨hw, ⟨hr, hra, hrw, hrm.1, hrm.2, ht, hta, htw, htm.1, htm.2⟩,
    fun _ => ⟨hp, h1, h2, hn, hl, hk, hv, h3, h4, h5, h6, h7, h8, hf, h9, h10⟩,
    (fun h => nomatch hc.symm.trans h), h11⟩

/-- An ACTIVE session, a word queued in RB and an empty tuple in TB, a transfer in progress, the
handler about to run. -/
def running : State :=
  { active .p1 [0x1234] [⟨0xFFFF, 7, 0xFFFF, 0xFFFF⟩] with
    isr := .entered, irqPending := true, xferActive := true, env := isrEnv, recv := fourSentinels }

theorem running_inv : running.Inv := by
  apply session_inv running (Or.inl ⟨by decide, by decide⟩) (fun _ h => nomatch h)
    (fun _ h => nomatch h) (fun _ h => nomatch h) <;> decide

/-- SC.SKIP_EMPTY after its first peek. -/
def skipping : State :=
  { active .p1 [] [⟨0xFFFF, 7, 0xFFFF, 0xFFFF⟩] with fg := .skipPop 0 }

theorem skipping_inv : skipping.Inv := by
  apply session_inv skipping ⟨by decide, by decide⟩ (fun _ _ => by decide)
    (fun _ h => nomatch h) (fun _ h => nomatch h) <;> decide

/-- SC.READ_ALL waiting for a second tuple, in its re-tick's start write. -/
def reticking : State :=
  { active .p0 [] [] with
    fg := .startWriteSio (.readAll ⟨2, 1, ⟨[1], [2], [3], [4]⟩⟩) 0x6083 }

theorem reticking_inv : reticking.Inv := by
  apply session_inv reticking ⟨by decide, by decide⟩ (fun _ h => nomatch h)
    (fun _ h => by cases h; decide) (fun _ h => by cases h; decide) <;> decide

/-- A parent at reset's session state, its port holding SC.NEW 3, 16. -/
def opening : State := { fresh .p0 with port := [0x0010, 0x3003] }

theorem opening_inv : opening.Inv := by
  apply session_inv opening (Or.inr ⟨by decide, by decide⟩) (fun _ h => nomatch h)
    (fun _ h => nomatch h) (fun _ h => nomatch h) <;> decide

/-- SC.NEW at its ERR read, ERR being 1. -/
def failing : State :=
  { fresh .p2 with
    sio := ⟨3, true, 0, 2, false, false⟩, scState := .iddisc
    fg := .initReadErr (.new ⟨.left, 3, 16⟩) 3 }

theorem failing_inv : failing.Inv := by
  apply session_inv failing ⟨by decide, by decide⟩ (fun _ h => nomatch h)
    (fun _ h => nomatch h) (fun _ h => nomatch h) <;> decide

/-- SC.NEW at its last step. -/
def activating : State :=
  { active .p2 [] [] with
    sio := ⟨3, false, 0, 2, false, false⟩, scState := .iddisc
    fg := .newWriteSio ⟨.uninit, 3, 1⟩ 2 0x2027 }

theorem activating_inv : activating.Inv := by
  apply session_inv activating ⟨by decide, by decide⟩ (fun _ h => nomatch h)
    (fun _ h => nomatch h) (fun _ h => by cases h; decide) <;> decide

/-- SC.LEAVE at its teardown. -/
def leaving : State :=
  { active .p0 [1] [] with sio := ⟨3, false, 0, 2, false, false⟩, fg := .leaveTeardown }

theorem leaving_inv : leaving.Inv := by
  apply session_inv leaving ⟨by decide, by decide⟩ (fun _ h => nomatch h)
    (fun _ h => nomatch h) (fun _ h => nomatch h) <;> decide

/-- A full RB on a standalone port. -/
theorem standalone_inv : (rbWith bare 2 3 [9, 8]).Inv :=
  ⟨by decide,
    ⟨by decide, by decide, by decide, by decide, by decide, by decide, by decide, by decide, by decide,
      by decide⟩,
    fun h => absurd h (by decide), fun _ => ⟨rfl, rfl, rfl, rfl, rfl, rfl⟩, by decide⟩

theorem witness_InvariantKept :
    (running.Inv ∧ ∃ t, step running = .next t ∧ t.isr = .recv1 0xFFFF) ∧
    (skipping.Inv ∧ ∃ t, step skipping = .next t ∧ t.tb.r = 1) ∧
    (reticking.Inv ∧ ∃ t, step reticking = .next t ∧ t.xferActive = true) ∧
    ((rbWith bare 2 3 [9, 8]).Inv ∧ ∃ t, step (rbWith bare 2 3 [9, 8]) = .next t) :=
  ⟨⟨running_inv, _, rfl, rfl⟩, ⟨skipping_inv, _, rfl, rfl⟩, ⟨reticking_inv, _, rfl, rfl⟩,
    ⟨standalone_inv, _, rfl⟩⟩

theorem witness_NoStateOfTheInvariantStops : running.Inv ∧ skipping.Inv ∧ leaving.Inv :=
  ⟨running_inv, skipping_inv, leaving_inv⟩

theorem witness_AllocMakesEmptyBuffer :
    (rbWith bare 1 0 []).rb.present = true ∧ bare.rb.present = false ∧ bare.cfg.capMax < (17 : Word).toNat ∧
    (16 : Word).toNat ≤ bare.cfg.capMax ∧ (tbWith bare 1 0 []).tb.present = true ∧
    bare.tb.present = false := by decide

theorem witness_AbsentBuffersRefuse :
    bare.rb.present = false ∧ Instr.rbLen.op ∈ [Op.rbFree, .rbPush, .rbPop, .rbReadBulk, .rbWriteBulk, .rbLen] ∧
    bare.tb.present = false ∧ Instr.tbLen.op ∈ [Op.tbFree, .tbPush, .tbPop, .tbPeek, .tbReadBulk, .tbLen] := by
  decide

/-- A full RB and a full TB, cursors past the capacity. -/
theorem witness_BufferFreeAndLen :
    (rbWith bare 2 3 [9, 8]).rbHolds [9, 8] ∧ (rbWith bare 2 0 []).rbHolds [] ∧
    (tbWith bare 2 3 [⟨1, 2, 3, 4⟩, ⟨5, 6, 7, 8⟩]).tbHolds [⟨1, 2, 3, 4⟩, ⟨5, 6, 7, 8⟩] ∧
    (tbWith bare 2 0 []).tbHolds [] := by decide

/-- Absent; full; one word short of full, the write cursor about to wrap. -/
theorem witness_RbPushAppends :
    bare.rb.present = false ∧
    ((rbWith bare 1 0 [5]).rbHolds [5] ∧ [(5 : Word)].length = (rbWith bare 1 0 [5]).rb.cap) ∧
    ((rbWith bare 2 2 [5]).rbHolds [5] ∧ [(5 : Word)].length < (rbWith bare 2 2 [5]).rb.cap) := by decide

theorem witness_RbPopTakesOldest :
    (rbWith bare 1 1 []).rbHolds [] ∧ (rbWith bare 2 3 [5, 6]).rbHolds (5 :: [6]) := by decide

theorem witness_RbReadBulkTakesOldest :
    (rbWith bare 4 6 [1, 2, 3]).rbHolds [1, 2, 3] ∧ (rbWith bare 4 6 []).rbHolds [] := by decide

theorem witness_RbWriteBulkAppends :
    (rbWith bare 4 6 [1, 2, 3]).rbHolds [1, 2, 3] ∧ [(9 : Word), 9].length < 2 ^ 16 := by decide

theorem witness_RbIsFifo :
    (rbWith bare 2 3 []).cfg.wf ∧ (rbWith bare 2 3 []).rbHolds [] ∧
    ∀ i ∈ [Instr.rbPush 1, .rbPop, .rbReadBulk 2, .rbWriteBulk [1, 2, 3], .rbLen],
      i.op ∈ [Op.rbPush, .rbPop, .rbReadBulk, .rbWriteBulk, .rbLen] := by decide

theorem witness_RbCapacityLaw :
    (rbWith bare 2 3 []).rbHolds [] ∧ [(1 : Word), 2].length = (rbWith bare 2 3 []).rb.cap := by decide

theorem witness_TbPushAppends :
    bare.tb.present = false ∧
    ((tbWith bare 1 0 [⟨1, 2, 3, 4⟩]).tbHolds [⟨1, 2, 3, 4⟩] ∧
      (tbWith bare 1 0 [⟨1, 2, 3, 4⟩]).tb.cap = 1) ∧
    ((tbWith bare 2 2 [⟨1, 2, 3, 4⟩]).tbHolds [⟨1, 2, 3, 4⟩] ∧
      (tbWith bare 2 2 [⟨1, 2, 3, 4⟩]).tb.cap = 2) := by decide

theorem witness_TbPopAndPeek :
    (tbWith bare 1 1 []).tbHolds [] ∧
    (tbWith bare 2 3 [⟨1, 2, 3, 4⟩]).tbHolds (⟨1, 2, 3, 4⟩ :: []) := by decide

theorem witness_TbReadBulkAdvancesByLeast :
    (tbWith bare 2 3 [⟨1, 2, 3, 4⟩, ⟨5, 6, 7, 8⟩]).tbHolds [⟨1, 2, 3, 4⟩, ⟨5, 6, 7, 8⟩] := by decide

theorem witness_TbIsLockstepFifo :
    (tbWith bare 2 3 []).tbHolds [] ∧
    ∀ i ∈ [Instr.tbPush ⟨1, 2, 3, 4⟩, .tbPop, .tbPeek, .tbReadBulk ⟨1, 0, 1, 1⟩, .tbLen],
      i.op ∈ [Op.tbPush, .tbPop, .tbPeek, .tbReadBulk, .tbLen] := by decide

theorem witness_TbCapacityLaw :
    (tbWith bare 1 1 []).tbHolds [] ∧
    [(⟨1, 2, 3, 4⟩ : Four Word)].length = (tbWith bare 1 1 []).tb.cap := by decide

theorem witness_CommandsCheckTheSession :
    (active .p0 [] []).scState = .active ∧ { fresh .p0 with scState := .iddisc }.scState = .iddisc ∧
    ((fresh .p0).ownsHandle ∧ (fresh .p0).smInited = false ∧ Instr.smStart.op ≠ .smInit) ∧
    { fresh .p0 with scState := .left }.scState ≠ .active := by decide

/-- ERR 0, and ERR drawn 1 by the write that enters multiplayer mode; from OTHER and from
multiplayer mode. -/
theorem witness_SmInitEntersMultiplayer :
    allTurns .fg [fgEnv, fgEnv, fgEnv, fgEnv] ∧ (fresh .p0).isr = .idle ∧ (fresh .p0).ownsHandle ∧
    (fresh .p0).errAfterEntry fgEnv fgEnv = false ∧
    (fresh .p0).errAfterEntry fgEnv { fgEnv with err := true } = true ∧
    { inited .p1 with scState := .left }.ownsHandle ∧ (inited .p1).multi ∧
    (inited .p1).errAfterEntry fgEnv fgEnv = false := by decide

theorem witness_SmReadyEntersMultiplayer :
    allTurns .fg [fgEnv, fgEnv] ∧ { inited .p0 with rcnt := 0x8000 }.ownsHandle ∧
    { inited .p0 with rcnt := 0x8000 }.smInited = true ∧ (inited .p0).isr = .idle := by decide

/-- Not in multiplayer mode, with id_valid 1; in it with no transfer; in it with a transfer abandoned. -/
theorem witness_SmUnreadyLeavesMultiplayer :
    (inited .p0).ownsHandle ∧ (inited .p0).smInited = true ∧ (inited .p0).cfg.altRcnt[15] = true ∧
    (¬ { inited .p0 with rcnt := 0x8000, idValid := true }.multi ∧
      ¬ { inited .p0 with rcnt := 0x8000, idValid := true }.busyNow) ∧
    ¬ (inited .p0).busyNow ∧ (inited .p0).multi ∧
    { inited .p0 with xferActive := true, env := { fgEnv with abandon := true } }.busyNow ∧
    { inited .p0 with xferActive := true, env := { fgEnv with abandon := true } }.env.abandon = true := by
  decide

theorem witness_SmStartChecksAndStarts :
    allTurns .fg [fgEnv, fgEnv, fgEnv, fgEnv] ∧ (inited .p0).isr = .idle ∧ (inited .p0).ownsHandle ∧
    (inited .p0).smInited = true ∧ { inited .p0 with xferActive := true }.busyNow ∧
    (¬ (inited .p0).busyNow ∧ (inited .p0).smRole = .parent) ∧
    (¬ (inited .p1).busyNow ∧ (inited .p1).smRole = .child) ∧
    (inited .p0).readyUnder fgEnv ∧ ¬ (inited .p0).readyUnder { fgEnv with peersReady := false } := by
  decide

theorem witness_SmSingleAccesses :
    (inited .p2).ownsHandle ∧ (inited .p2).smInited = true ∧ (inited .p2).multi ∧
    { inited .p2 with idValid := true }.idValid = true ∧
    ¬ ((inited .p2).multi ∧ (inited .p2).idValid = true) := by decide

theorem witness_SmStatusPacksFlags :
    fgEnv.turn = .fg ∧ (inited .p2).isr = .idle ∧ (inited .p2).ownsHandle ∧
    (inited .p2).smInited = true ∧ (inited .p2).multi ∧
    ¬ { inited .p2 with rcnt := 0x8000 }.multi := by decide

theorem witness_DiscoveryHandshake :
    allTurns .fg [fgEnv, fgEnv, fgEnv, fgEnv, fgEnv, fgEnv] ∧ (inited .p0).isr = .idle ∧
    (inited .p0).cfg.altRcnt[15] = true ∧ (inited .p0).env = fgEnv ∧ (inited .p0).ownsHandle ∧
    (inited .p0).smInited = true ∧
    { inited .p0 with fg := .discWriteUnready (.new ⟨.uninit, 3, 4⟩) }.fg =
      .discWriteUnready (.new ⟨.uninit, 3, 4⟩) := by decide

/-- The clauses in turn: a busy link; a parent, a child; ready or not; ERR 0 or 1. -/
theorem witness_DiscoveryAttempt :
    { inited .p0 with fg := .startReadBusy (.discover .command), xferActive := true }.busyNow ∧
    ({ inited .p0 with fg := .startReadBusy (.discover .command) }.smRole = .parent ∧
      ¬ { inited .p0 with fg := .startReadBusy (.discover .command) }.busyNow) ∧
    ({ inited .p3 with fg := .startReadBusy (.discover .command) }.smRole = .child ∧
      ¬ { inited .p3 with fg := .startReadBusy (.discover .command) }.busyNow) ∧
    (inited .p3).readyUnder fgEnv ∧ ¬ (inited .p3).readyUnder { fgEnv with peersReady := false } ∧
    (inited .p3).sio.err = false ∧
    { inited .p3 with sio := ⟨3, true, 0, 2, false, false⟩ }.sio.err = true := by decide

/-- A child's discovery at its ID read, after a completion. -/
def identifying : State :=
  { inited .p1 with
    fg := .discReadId .command, idValid := true, seenComplete := true
    recv := ⟨0, 0xFFFF, 0, 0⟩ }

theorem identifying_inv : identifying.Inv := by
  apply session_inv identifying ⟨by decide, by decide⟩ (fun _ h => nomatch h)
    (fun _ h => nomatch h) (fun _ h => nomatch h) <;> decide

/-- No completion yet; one, with SENTINEL in the ID's RECV, in SM.DISCOVER and in SC.NEW; one, with
another word there. -/
theorem witness_DiscoveryExit :
    allTurns .fg [fgEnv, fgEnv] ∧
    { identifying with seenComplete := false }.seenComplete = false ∧
    (identifying.Inv ∧ identifying.cfg.config = .session ∧ identifying.isr = .idle ∧
      identifying.seenComplete = true ∧ identifying.multi ∧ identifying.idValid = true ∧
      identifying.recv.get .p1 = sentinel) ∧
    ¬ ({ identifying with idValid := false }.multi ∧ { identifying with idValid := false }.idValid = true) ∧
    { identifying with fg := .discReadId (.new ⟨.left, 3, 4⟩) }.recv.get .p1 = sentinel ∧
    { identifying with recv := ⟨0, 7, 0, 0⟩ }.recv.get .p1 ≠ sentinel :=
  ⟨by decide, rfl, ⟨identifying_inv, rfl, rfl, rfl, by decide, rfl, by decide⟩, by decide, by decide,
    by decide⟩

theorem witness_ScNewOpens :
    (active .p0 [] []).rb.present = true ∧ (fresh .p0).rb.present = false ∧
    (fresh .p0).tb.present = false ∧ (fresh .p0).cfg.capMax < (17 : Word).toNat ∧
    (16 : Word).toNat ≤ (fresh .p0).cfg.capMax ∧ (fresh .p0).ownsHandle ∧ (fresh .p0).isr = .idle ∧
    allTurns .fg [fgEnv, fgEnv, fgEnv, fgEnv] ∧ (fresh .p0).errAfterEntry fgEnv fgEnv = false ∧
    (fresh .p0).errAfterEntry fgEnv { fgEnv with err := true } = true := by decide

theorem witness_ScNewActivates :
    allTurns .fg [fgEnv, fgEnv, fgEnv] ∧ (inited .p0).isr = .idle ∧
    { inited .p0 with fg := .newInstall ⟨.uninit, 3, 16⟩ 0 }.fg = .newInstall ⟨.uninit, 3, 16⟩ 0 ∧
    (inited .p0).rb.present = false ∧ (inited .p0).tb.present = false ∧
    capacityLegal (inited .p0).cfg 16 := by decide

theorem witness_ScQueueSendAppendsAndReadies :
    allTurns .fg [fgEnv, fgEnv, fgEnv] ∧ (active .p0 [7] []).isr = .idle ∧
    (active .p0 [7] []).scState = .active ∧ (active .p0 [7] []).rbHolds [7] ∧
    [(1 : Word)].length < 2 ^ 16 := by decide

theorem witness_ScTickStarts :
    allTurns .fg [fgEnv, fgEnv, fgEnv, fgEnv] ∧ (active .p0 [] []).isr = .idle ∧
    (active .p0 [] []).scState = .active ∧ { active .p0 [] [] with xferActive := true }.busyNow ∧
    (¬ (active .p0 [] []).busyNow ∧ (active .p0 [] []).smRole = .parent) ∧
    (¬ (active .p1 [] []).busyNow ∧ (active .p1 [] []).smRole = .child) ∧
    (active .p1 [] []).readyUnder fgEnv ∧
    ¬ (active .p1 [] []).readyUnder { fgEnv with peersReady := false } := by decide

theorem witness_ScReadBulkAdvancesByLeast :
    (fresh .p0).scState ≠ .active ∧ (active .p0 [] [⟨1, 2, 3, 4⟩]).scState = .active ∧
    (active .p0 [] [⟨1, 2, 3, 4⟩]).tbHolds [⟨1, 2, 3, 4⟩] := by decide

/-- Unequal lengths; as many tuples as asked for; fewer. -/
theorem witness_ScReadAllFirstRound :
    (active .p0 [] [⟨1, 2, 3, 4⟩]).scState = .active ∧
    ¬ ((1 : Word) = 1 ∧ (1 : Word) = 1 ∧ (1 : Word) = 2) ∧
    (active .p0 [] [⟨1, 2, 3, 4⟩]).tbHolds [⟨1, 2, 3, 4⟩] ∧
    (1 : Word).toNat ≤ [(⟨1, 2, 3, 4⟩ : Four Word)].length ∧
    [(⟨1, 2, 3, 4⟩ : Four Word)].length < (2 : Word).toNat := by decide

/-- Each position of a later round: the re-tick busy, and idle on a parent and on a child, peers ready
or not, ERR 0 or 1; the ready check and the ERR read; the read that fills the outputs and one that does
not. -/
theorem witness_ScReadAllLaterRounds :
    let l : ReadAllLocals := ⟨2, 1, ⟨[1], [2], [3], [4]⟩⟩
    let s : State := active .p0 [] [⟨5, 6, 7, 8⟩]
    let c : State := { active .p1 [] [] with fg := .startReadBusy (.readAll l) }
    let unready : Env := { fgEnv with peersReady := false }
    s.env.turn = .fg ∧ s.isr = .idle ∧ l.filled < l.len ∧ c.env.turn = .fg ∧ c.isr = .idle ∧
    allTurns .fg [fgEnv, fgEnv, fgEnv, fgEnv, fgEnv] ∧
    (¬ { s with fg := .startReadBusy (.readAll l) }.busyNow ∧ s.smRole = .parent ∧
      s.sio.err = false ∧ s.readyUnder fgEnv ∧ ¬ s.readyUnder unready) ∧
    (¬ c.busyNow ∧ c.smRole = .child ∧ c.readyUnder fgEnv ∧ ¬ c.readyUnder unready) ∧
    { c with sio := ⟨3, true, 0, 2, true, false⟩ }.sio.err = true ∧
    { s with fg := .startReadBusy (.readAll l), xferActive := true }.busyNow ∧
    ¬ { s with fg := .startReadReady (.readAll l), env := unready }.readyUnder unready ∧
    { s with fg := .startReadReady (.readAll l) }.readyUnder s.env ∧
    ({ s with fg := .startReadErr (.readAll l) }.multi ∧ s.sio.err = false) ∧
    { s with
      fg := .startReadErr (.readAll l), sio := ⟨3, true, 0, 2, true, false⟩ }.sio.err = true ∧
    ({ s with fg := .readAllRead l }.tbHolds [⟨5, 6, 7, 8⟩] ∧ l.filled + 1 = l.len) ∧
    ({ active .p0 [] [] with fg := .readAllRead l }.tbHolds [] ∧ l.filled + 0 < l.len) := by decide

/-- Two empty tuples, then one with a peer's word. -/
theorem witness_ScSkipEmptyDropsLeadingEmpties :
    let ts : List (Four Word) :=
      [⟨1, 0xFFFF, 0xFFFF, 0xFFFF⟩, ⟨2, 0xFFFF, 0xFFFF, 0xFFFF⟩, ⟨3, 4, 0xFFFF, 0xFFFF⟩]
    (active .p0 [] ts).isr = .idle ∧ (active .p0 [] ts).scState = .active ∧
    (active .p0 [] ts).tbHolds ts ∧
    (ts.takeWhile fun t => decide (emptyTransfer (active .p0 [] ts).scId t)).length = 2 ∧
    allTurns .fg [fgEnv, fgEnv, fgEnv, fgEnv] := by decide

theorem witness_ScIdAndBlock :
    (fresh .p0).scState ≠ .active ∧ (active .p3 [] []).scState = .active := by decide

theorem witness_ScLeaveTearsDown :
    allTurns .fg [fgEnv, fgEnv] ∧ (fresh .p0).isr = .idle ∧ (fresh .p0).scState ≠ .active ∧
    (active .p0 [1] []).scState = .active ∧ (active .p0 [1] []).isr = .idle := by decide

/-- A step of each kind the state machine lists, from a state of the invariant. -/
theorem witness_SessionStateMachine :
    (running.Inv ∧ ∃ t, step running = .next t ∧ t.scState = running.scState) ∧
    (opening.Inv ∧ ∃ t, step opening = .next t ∧ t.scState = .iddisc) ∧
    (activating.Inv ∧ ∃ t, step activating = .next t ∧ t.scState = .active) ∧
    (failing.Inv ∧ ∃ t, step failing = .next t ∧ t.scState = .left) ∧
    (leaving.Inv ∧ ∃ t, step leaving = .next t ∧ t.scState = .left) :=
  ⟨⟨running_inv, _, rfl, rfl⟩, ⟨opening_inv, _, rfl, rfl⟩, ⟨activating_inv, _, rfl, rfl⟩,
    ⟨failing_inv, _, rfl, rfl⟩, ⟨leaving_inv, _, rfl, rfl⟩⟩

theorem witness_AtMostOneSession : running.Inv ∧ running.scState = .active := ⟨running_inv, rfl⟩

/-- A tuple pushed and a word popped; all SENTINEL; TB full; RB empty with and without the block
policy, there with a transfer in progress that the last step abandons or keeps: the schedule's length
is 6, 5, 6, 6 and 7. -/
theorem witness_HandlerRun :
    let a : State := { active .p1 [5] [] with recv := ⟨1, 2, 0xFFFF, 0xFFFF⟩ }
    (a.cfg.altRcnt[15] = true ∧ a.rbHolds [5] ∧ a.tbHolds [] ∧ ¬ allSentinel a.recv) ∧
    allSentinel { a with recv := fourSentinels }.recv ∧
    (tbWith a 1 0 [⟨1, 2, 3, 4⟩]).tbHolds [⟨1, 2, 3, 4⟩] ∧
    (active .p1 [] []).rbHolds [] ∧ { active .p1 [] [] with blockFlag := true }.blockFlag = true ∧
    { active .p1 [] [] with xferActive := true }.busyNow ∧
    allTurns .isr (List.replicate 6 isrEnv ++ [{ isrEnv with abandon := true }]) ∧
    (List.replicate 6 isrEnv ++ [{ isrEnv with abandon := true }]).getLast? =
      some { isrEnv with abandon := true } ∧
    allTurns .isr (List.replicate 7 isrEnv) := by decide

/-- The interrupt taken in the first step, FG alone after it. -/
def takenAtOnce (n : Nat) : State :=
  if n = 0 then { inited .p0 with irqPending := true, env := isrEnv } else inited .p0

theorem takenAtOnce_isRun : IsRun takenAtOnce := by
  intro n
  cases n with
  | zero => exact ⟨{ inited .p0 with env := isrEnv }, [], fgEnv, 0, rfl, rfl⟩
  | succ n => exact ⟨inited .p0, [], fgEnv, 0, rfl, rfl⟩

theorem takenAtOnce_fair : WeaklyFair takenAtOnce := by
  intro n h
  have := h (n + 1) (Nat.le_succ n)
  exact absurd this (by show ¬ (inited .p0).isrEnabled; decide)

/-- The draws of a parent's frame: SC.TICK starts a transfer, LINK completes it, the handler runs. -/
def frameEnv (k : Nat) : Env :=
  if k < 5 then fgEnv
  else if k = 5 then { fgEnv with turn := .linkComplete, words := fourSentinels }
  else isrEnv

/-- The states of one frame of 13 steps, after which FG sends SC.TICK again. -/
def frame : Nat → State
  | 0 =>
    { active .p0 [] [] with
      send := sentinel, sendLatch := sentinel, recv := fourSentinels, idValid := true
      seenComplete := true, resp := some ⟨.ok, 0, []⟩, port := encode .scTick, env := frameEnv 0 }
  | k + 1 =>
    match agentStep (frame k) with
    | .next t =>
      { t.fgSends (if k = 12 then encode .scTick else []) with env := frameEnv ((k + 1) % 13) }
    | _ => frame k

/-- Frame after frame for ever. -/
def frames (n : Nat) : State := frame (n % 13)

/-- A step of the frame, and its last state the first one again. -/
theorem frame_steps : ∀ k < 13, ∃ t, agentStep (frame k) = .next t ∧ frame ((k + 1) % 13) =
    { t.fgSends (if k = 12 then encode .scTick else []) with env := frameEnv ((k + 1) % 13) } := by
  have h : ∀ k < 13, (match agentStep (frame k) with
      | .next t => decide (frame ((k + 1) % 13) =
          { t.fgSends (if k = 12 then encode .scTick else []) with env := frameEnv ((k + 1) % 13) })
      | _ => false) = true := by decide +kernel
  intro k hk
  have := h k hk
  split at this
  · exact ⟨_, by assumption, of_decide_eq_true this⟩
  · cases this

theorem frames_isRun : IsRun frames := by
  intro n
  obtain ⟨t, ht, hn⟩ := frame_steps (n % 13) (Nat.mod_lt n (by decide))
  refine ⟨t, if n % 13 = 12 then encode .scTick else [], frameEnv ((n % 13 + 1) % 13), t.tick, ht, ?_⟩
  rw [frames, show (n + 1) % 13 = (n % 13 + 1) % 13 by omega]
  exact hn

theorem frame_active : ∀ k < 13, ((frame k).xferActive = true ↔ 3 ≤ k ∧ k ≤ 5) := by decide +kernel

theorem frame_turns : (frame 5).env.turn = .linkComplete ∧ (frame 6).env.turn = .isr := by
  decide +kernel

/-- The premises of 43_session.md R252 hold of a run of a parent in which transfers begin and complete
and the handler runs, for ever. -/
theorem frames_premises : ProgressPremises frames where
  ticks _ n := by
    refine ⟨13 * n, by omega, ?_⟩
    rw [frames, Nat.mul_mod_right]
    exact ⟨rfl, rfl, rfl, [], by decide⟩
  completes n h := by
    have hn := (frame_active (n % 13) (Nat.mod_lt n (by decide))).1 h
    refine ⟨n + (5 - n % 13), by omega, fun k h1 h2 => ?_, ?_⟩
    · exact (frame_active (k % 13) (Nat.mod_lt k (by decide))).2 (by omega)
    · rw [frames, show (n + (5 - n % 13)) % 13 = 5 by omega]; exact frame_turns.1
  fair n _ := by
    refine ⟨13 * n + 6, by omega, ?_⟩
    rw [frames, show (13 * n + 6) % 13 = 6 by omega]; exact frame_turns.2

theorem witness_ProgressPremises :
    IsRun frames ∧ ProgressPremises frames ∧ (frames 0).cfg.roleHw = .parent ∧
    ((frames 0).scState = .active ∧ (frames 3).xferActive = true ∧ (frames 6).takesInterrupt) :=
  ⟨frames_isRun, frames_premises, rfl, rfl, by decide +kernel, by decide +kernel⟩

theorem witness_InterruptTaken :
    ({ inited .p0 with env := isrEnv }.irqPending = false) ∧
    ({ active .p0 [] [] with irqPending := true, env := isrEnv }.isrInstalled = true) ∧
    ({ inited .p0 with irqPending := true, env := isrEnv }.isrInstalled = false) ∧
    (running.isr ≠ .idle ∧ ∃ t, agentStep running = .next t) ∧
    (∃ t, agentStep { running with env := { fgEnv with turn := .linkComplete } } = .next t ∧
      t.irqPending = true) ∧
    IsRun takenAtOnce ∧ WeaklyFair takenAtOnce ∧ (takenAtOnce 0).irqPending = true :=
  ⟨by decide, by decide, by decide, ⟨by decide, _, rfl⟩, ⟨_, rfl, by decide⟩, takenAtOnce_isRun,
    takenAtOnce_fair, rfl⟩

/-- A write that keeps the stored fields, with START 0 and 1; ready, raced and not begun; a child;
the remote start. -/
theorem witness_TransferBegin :
    (inited .p0).sio.store 0x2003 = (inited .p0).sio ∧
    (inited .p0).sio.store 0x2083 = (inited .p0).sio ∧ (0x2083 : Word)[7] = true ∧
    (inited .p0).multi ∧ (inited .p0).cfg.roleHw = .parent ∧ (inited .p0).xferActive = false ∧
    (inited .p0).flagSd = true ∧
    ({ inited .p0 with env := { fgEnv with peersReady := false, race := true } }.env.race = true) ∧
    ({ inited .p0 with env := { fgEnv with peersReady := false } }.flagSd = false) ∧
    ¬ ((inited .p2).multi ∧ (inited .p2).cfg.roleHw = .parent ∧ (inited .p2).xferActive = false) ∧
    ({ inited .p2 with env := { fgEnv with turn := .linkBegin } }.cfg.roleHw = .child ∧
      (inited .p2).multi) := by decide

theorem witness_TransferCompletion :
    let s : State := { inited .p0 with xferActive := true, env := { fgEnv with turn := .linkComplete } }
    s.env.turn = .linkComplete ∧ s.xferActive = true ∧
    (PlayerId.p1 ≠ s.cfg.posHw ∧ s.cfg.present.get .p1 = true) ∧
    (PlayerId.p2 ≠ s.cfg.posHw ∧ s.cfg.present.get .p2 = false) := by decide

theorem witness_CompletionsCoalesce :
    let s : State := { active .p1 [] [] with irqPending := true }
    s.sio.irq = true ∧ s.isr = .idle ∧ s.isrInstalled = true ∧ s.irqPending = true ∧ s.multi ∧
    s.cfg.roleHw = .child ∧ s.xferActive = false ∧
    [{ fgEnv with turn := .linkBegin }, { fgEnv with turn := .linkComplete }, isrEnv, isrEnv,
      isrEnv].map Env.turn = [.linkBegin, .linkComplete, .isr, .isr, .isr] := by decide

/-- Entering by RCNT, entering by SIOCNT, leaving with no transfer, with one that goes on, with one
that is abandoned. -/
theorem witness_ModeChange :
    (¬ { inited .p0 with rcnt := 0x8000 }.multi ∧ (inited .p0).sio.mode = 2 ∧
      (inited .p0).idValid = false) ∧
    (¬ (fresh .p0).multi ∧ (fresh .p0).rcnt = 0 ∧ (fresh .p0).idValid = false ∧
      (0x2003 : Word).extractLsb' 12 2 = 2 ∧ (0x2003 : Word)[7] = false) ∧
    ((inited .p0).multi ∧ (inited .p0).cfg.altRcnt[15] = true ∧ (inited .p0).xferActive = false) ∧
    ({ inited .p0 with xferActive := true }.xferActive = true ∧ (inited .p0).env.abandon = false) ∧
    { inited .p0 with
      xferActive := true, env := { fgEnv with abandon := true } }.env.abandon = true := by decide

theorem witness_SiocntReads :
    ((inited .p2).multi ∧ { inited .p2 with idValid := true }.idValid = true ∧
      (inited .p2).idValid = false) ∧ ¬ (fresh .p2).multi := by decide

/-- A parent's start write, and the remote start on a child. -/
theorem witness_OnlyParentStarts :
    (∃ t, step { inited .p0 with fg := .startWriteSio .command 0x2003 } = .next t ∧
      t.xferActive = true) ∧
    (inited .p0).xferActive = false ∧
    (∃ t, step { inited .p2 with env := { fgEnv with turn := .linkBegin } } = .next t ∧
      t.xferActive = true) ∧ (inited .p2).xferActive = false :=
  ⟨⟨_, rfl, rfl⟩, rfl, ⟨_, rfl, rfl⟩, rfl⟩

/-- A step of each agent, of FG in an ACTIVE session among them. -/
theorem witness_AgentsKeepTheirParts :
    (skipping.Inv ∧ skipping.env.turn = .fg ∧ skipping.cfg.config = .session ∧
      skipping.scState = .active ∧ skipping.fg ≠ .leaveTeardown ∧ skipping.isrInstalled = true ∧
      ∃ t, agentStep skipping = .next t) ∧
    (∃ t, agentStep (fresh .p0) = .next t) ∧
    (∃ t, agentStep running = .next t) ∧ running.cfg.altRcnt[15] = true ∧
    (∃ t, agentStep { inited .p2 with env := { fgEnv with turn := .linkBegin } } = .next t) ∧
    (∃ t, agentStep { running with env := { fgEnv with turn := .linkComplete } } = .next t) :=
  ⟨⟨skipping_inv, rfl, rfl, rfl, by decide, rfl, _, rfl⟩, ⟨_, rfl⟩, ⟨_, rfl⟩, rfl, ⟨_, rfl⟩, ⟨_, rfl⟩⟩

theorem witness_BusReachesSevenRegisters :
    (∃ v, (inited .p0).busRead 0x04000128 16 = .ok v) ∧
    (∃ t, (inited .p0).busWrite 0x0400012A 16 7 = .ok t) ∧ (8 : Nat) ≠ 16 ∧
    ((0x04000129 : BitVec 32) - (inited .p0).cfg.lrBase).toNat % 2 = 1 :=
  ⟨⟨_, rfl⟩, ⟨_, rfl⟩, by decide, by decide⟩

/-- A parent and the child at slot 1, in a transfer. -/
def pair : Cable :=
  ⟨[{ inited .p0 with xferActive := true, sendLatch := 0xAAAA },
    { inited .p1 with xferActive := true, sendLatch := 0xBBBB }], false⟩

/-- The same pair at two BAUD codes. -/
def mismatched : Cable :=
  ⟨[{ inited .p0 with xferActive := true },
    { inited .p1 with xferActive := true, sio := ⟨1, false, 0, 2, false, false⟩ }], false⟩

/-- The rates match and nothing is broken; broken before; the codes differ now. -/
theorem witness_CableCompletionAgrees :
    (pair.wf ∧ (∀ u ∈ pair.units, u.xferActive = true) ∧ pair.positions = [.p0, .p1] ∧
      ¬ (pair.broken = true ∨ ¬ pair.ratesMatch)) ∧
    { pair with broken := true }.broken = true ∧
    mismatched.wf ∧ (∀ u ∈ mismatched.units, u.xferActive = true) ∧ ¬ mismatched.ratesMatch := by decide

end Sys2Proof.Tests
end

/-! ## The flags of SIOCNT in each mode (10_state.md R34; 20_memory.md R93 to R96) -/

namespace Sys2Proof

/-- ROLE_HW is CHILD exactly where POS_HW is not 0 (00_scope.md R10). -/
theorem Params.roleHw_eq_child_iff (c : Params) : c.roleHw = .child ↔ c.posHw ≠ .p0 := by
  unfold Params.roleHw
  cases c.posHw <;> decide

theorem PlayerId.toBits_eq_ofNat (p : PlayerId) : p.toBits = BitVec.ofNat 2 p.toNat := by
  cases p <;> rfl

theorem PlayerId.ofBits_toBits (p : PlayerId) : PlayerId.ofBits p.toBits = p := by
  cases p <;> rfl

end Sys2Proof

namespace Sys2Proof.Machine

section
variable (s : State)

theorem flagSi_of_multi (h : s.multi) : s.flagSi = decide (s.cfg.posHw ≠ .p0) := by
  simp only [State.flagSi, if_pos h, Params.roleHw_eq_child_iff]

theorem flagSi_of_other (h : ¬ s.multi) : s.flagSi = s.env.garbage[2] := if_neg h

theorem flagErr_of_multi (h : s.multi) : s.flagErr = s.sio.err := if_pos h

theorem flagErr_of_other (h : ¬ s.multi) : s.flagErr = s.env.garbage[6] := if_neg h

theorem flagBusy_of_multi (h : s.multi) : s.flagBusy = s.xferActive := by
  simp only [State.flagBusy, State.localReady, decide_eq_true h, Bool.true_and]

theorem flagBusy_of_other (h : ¬ s.multi) : s.flagBusy = false := by
  simp only [State.flagBusy, State.localReady, decide_eq_false h, Bool.false_and]

theorem flagId_of_valid (h : s.multi) (hv : s.idValid = true) : s.flagId = s.cfg.posHw.toBits :=
  if_pos ⟨h, hv⟩

theorem flagId_of_invalid (hv : s.idValid = false) :
    s.flagId = s.env.garbage.extractLsb' 4 2 :=
  if_neg fun h => by simp [hv] at h

theorem flagId_of_other (h : ¬ s.multi) : s.flagId = s.env.garbage.extractLsb' 4 2 :=
  if_neg fun hm => h hm.1

end

/-- Settles O56: each bit of a read is its flag, and each flag is read off the mode. -/
theorem siocntReads : Obligations.SiocntReads := by
  intro s
  refine ⟨siocntRead_baud s, siocntRead_unusedLo s, siocntRead_mode s, siocntRead_irq s,
    siocntRead_unusedHi s, rfl, fun hm => ⟨?_, ?_, ?_, ?_, fun hv => ?_, fun hv => ?_⟩,
    fun ho => ⟨flagSd_of_other s ho, ?_, ?_, ?_, ?_, ?_⟩⟩
  · rw [siocntRead_sd, readSd_of_multi s hm]
  · rw [siocntRead_si, flagSi_of_multi s hm]
  · rw [siocntRead_err, flagErr_of_multi s hm]
  · rw [siocntRead_busy, flagBusy_of_multi s hm]
  · rw [siocntRead_id, flagId_of_valid s hm hv, PlayerId.toBits_eq_ofNat]
  · rw [siocntRead_id, flagId_of_invalid s hv]
  · rw [siocntRead_sd, readSd_of_other s ho]
  · rw [siocntRead_si, flagSi_of_other s ho]
  · rw [siocntRead_err, flagErr_of_other s ho]
  · rw [siocntRead_busy, flagBusy_of_other s ho]
  · rw [siocntRead_id, flagId_of_other s ho]

end Sys2Proof.Machine

/-! ## The buffers and their stores (20_memory.md R80; 41_ring_buffer.md; 42_transfer_buffer.md)

RB and TB differ only in their lanes: RB's one lane is lane 0 of its store. What a critical section
may do to either is a sequence of `StoreOp`s, and each of those keeps `StoreOk`. -/

namespace Sys2Proof.Machine

/-- The lanes of TB. -/
abbrev tbLanes : List PlayerId := [.p0, .p1, .p2, .p3]

/-- The store after one word per lane has been written at cursor value x. -/
def Memory.writeLanes (q : Queue) (x : Nat) (f : PlayerId → Word) (lanes : List PlayerId)
    (m : Memory) : Memory :=
  lanes.foldl (fun m p => m.insert (q.laneAddr p x) (f p)) m

/-- One operation on a buffer and its store: allocation, release, a push of one word per lane, a pop
of k words. A pop takes no more than is queued, as far as the cursors are legal. -/
inductive StoreOp (lanes : List PlayerId) (capMax size : Nat) (q : Queue) (m : Memory) :
    Queue × Memory → Prop where
  | alloc (c : Nat) (hpos : 1 ≤ c) (hmax : c ≤ capMax) :
      StoreOp lanes capMax size q m (Queue.fresh c, m)
  | free : StoreOp lanes capMax size q m (Queue.absent, m)
  | push (f : PlayerId → Word) (hpresent : q.present = true) (hroom : ¬ q.isFull)
      (hsize : ∀ p ∈ lanes, q.laneAddr p q.w < size) :
      StoreOp lanes capMax size q m (q.pushed, m.writeLanes q q.w f lanes)
  | pop (k : Nat) (hpresent : q.present = true) (hk : q.legal capMax → k ≤ q.occ) :
      StoreOp lanes capMax size q m (q.popped k, m)

/-- A sequence of operations on a buffer and its store. -/
abbrev StoreOps (lanes : List PlayerId) (capMax size : Nat) :
    Queue × Memory → Queue × Memory → Prop :=
  Relation.ReflTransGen fun b => StoreOp lanes capMax size b.1 b.2

/-- What a step did to RB and RBM is a sequence of operations. -/
abbrev RbOps (s t : State) : Prop :=
  StoreOps [.p0] s.cfg.capMax s.rbmSize (s.rb, s.rbm) (t.rb, t.rbm)

/-- What a step did to TB and TBM is a sequence of operations. -/
abbrev TbOps (s t : State) : Prop :=
  StoreOps tbLanes s.cfg.capMax s.tbmSize (s.tb, s.tbm) (t.tb, t.tbm)

/-- The invariant of one buffer and its store, for the given lanes. -/
structure StoreOk (lanes : List PlayerId) (capMax size : Nat) (q : Queue) (m : Memory) : Prop where
  legal   : q.present = true → q.legal capMax
  absent  : q.present = false → q = Queue.absent
  written : q.present = true → ∀ p ∈ lanes, ∀ a ∈ q.headLane p q.occ, (m.lookup a).isSome = true
  wf      : m.wf
  size    : ∀ c ∈ m, c.1 < size

/-- RB's words stand where lane 0 of a fan-out buffer would. -/
theorem Queue.headLane_p0 (q : Queue) (k : Nat) : q.headLane .p0 k = q.headSlots k := by
  simp [Queue.headLane, Queue.headSlots, Queue.laneAddr, PlayerId.toNat]

theorem Queue.laneAddr_p0 (q : Queue) (x : Nat) : q.laneAddr .p0 x = q.slot x := by
  simp [Queue.laneAddr, PlayerId.toNat]

/-- The model's invariant of the buffers is `StoreOk` of each. -/
theorem buffersOk_iff (s : State) :
    s.BuffersOk ↔ StoreOk [.p0] s.cfg.capMax s.rbmSize s.rb s.rbm ∧
      StoreOk tbLanes s.cfg.capMax s.tbmSize s.tb s.tbm := by
  have hrb : (s.rbContents.all Option.isSome = true) ↔
      ∀ p ∈ [PlayerId.p0], ∀ a ∈ s.rb.headLane p s.rb.occ, (s.rbm.lookup a).isSome = true := by
    simp [State.rbContents, Queue.headLane_p0]
  have htb (p : PlayerId) : ((s.tbLane p).all Option.isSome = true) ↔
      ∀ a ∈ s.tb.headLane p s.tb.occ, (s.tbm.lookup a).isSome = true := by
    simp [State.tbLane]
  constructor
  · rintro ⟨h1, h2, h3, h4, h5, h6, h7, h8, h9, h10⟩
    exact ⟨⟨h1, h2, fun h => hrb.mp (h3 h), h4, h5⟩,
      ⟨h6, h7, fun h p hp => (htb p).mp (h8 h p hp), h9, h10⟩⟩
  · rintro ⟨⟨h1, h2, h3, h4, h5⟩, h6, h7, h8, h9, h10⟩
    exact ⟨h1, h2, fun h => hrb.mpr (h3 h), h4, h5, h6, h7,
      fun h p hp => (htb p).mpr (h8 h p hp), h9, h10⟩

/-! ### Writing the lanes -/

theorem Memory.wf_writeLanes {q : Queue} {x : Nat} {f : PlayerId → Word} {lanes : List PlayerId}
    {m : Memory} (h : m.wf) : (m.writeLanes q x f lanes).wf := by
  induction lanes generalizing m with
  | nil => exact h
  | cons p ps ih => exact ih (Memory.wf_insert h _ _)

theorem Memory.size_writeLanes {q : Queue} {x size : Nat} {f : PlayerId → Word}
    {lanes : List PlayerId} {m : Memory} (h : ∀ c ∈ m, c.1 < size)
    (ha : ∀ p ∈ lanes, q.laneAddr p x < size) : ∀ c ∈ m.writeLanes q x f lanes, c.1 < size := by
  induction lanes generalizing m with
  | nil => exact h
  | cons p ps ih =>
    refine ih (fun c hc => ?_) fun p' hp' => ha p' (List.mem_cons_of_mem _ hp')
    rcases Memory.mem_insert_fst hc with h1 | h1
    · exact h1 ▸ ha p List.mem_cons_self
    · exact h c h1

/-- A written word stays written. -/
theorem Memory.isSome_writeLanes {q : Queue} {x a : Nat} {f : PlayerId → Word}
    {lanes : List PlayerId} {m : Memory} (h : (m.lookup a).isSome = true) :
    ((m.writeLanes q x f lanes).lookup a).isSome = true := by
  induction lanes generalizing m with
  | nil => exact h
  | cons p ps ih =>
    refine ih ?_
    rw [Memory.lookup_insert]
    split_ifs
    · rfl
    · exact h

theorem Memory.isSome_writeLanes_laneAddr {q : Queue} {x : Nat} {f : PlayerId → Word}
    {lanes : List PlayerId} {m : Memory} {p : PlayerId} (hp : p ∈ lanes) :
    ((m.writeLanes q x f lanes).lookup (q.laneAddr p x)).isSome = true := by
  induction lanes generalizing m with
  | nil => cases hp
  | cons p' ps ih =>
    rcases List.mem_cons.mp hp with rfl | hp
    · exact Memory.isSome_writeLanes (m := m.insert _ _) (by simp)
    · exact ih hp

/-! ### The operations keep the invariant -/

theorem StoreOk.alloc {lanes : List PlayerId} {capMax size c : Nat} {q : Queue} {m : Memory}
    (h : StoreOk lanes capMax size q m) (hpos : 1 ≤ c) (hmax : c ≤ capMax) :
    StoreOk lanes capMax size (Queue.fresh c) m where
  legal _ := Queue.legal_fresh hpos hmax
  absent hp := by simp at hp
  written _ p _ a ha := by simp [Queue.headLane] at ha
  wf := h.wf
  size := h.size

theorem StoreOk.free {lanes : List PlayerId} {capMax size : Nat} {q : Queue} {m : Memory}
    (h : StoreOk lanes capMax size q m) : StoreOk lanes capMax size Queue.absent m where
  legal hp := nomatch hp
  absent _ := rfl
  written hp := nomatch hp
  wf := h.wf
  size := h.size

theorem StoreOk.push {lanes : List PlayerId} {capMax size : Nat} {q : Queue} {m : Memory}
    (h : StoreOk lanes capMax size q m) (f : PlayerId → Word) (hp : q.present = true)
    (hroom : ¬ q.isFull) (hsize : ∀ p ∈ lanes, q.laneAddr p q.w < size) :
    StoreOk lanes capMax size q.pushed (m.writeLanes q q.w f lanes) := by
  have hl := h.legal hp
  have hocc : q.occ < q.cap := lt_of_le_of_ne hl.2.2.2.2 hroom
  refine ⟨fun _ => Queue.legal_pushed hl hocc, fun hn => ?_, fun _ p hpl a ha => ?_,
    Memory.wf_writeLanes h.wf, Memory.size_writeLanes h.size hsize⟩
  · exact absurd (hp.symm.trans hn) (by decide)
  · rw [Queue.headLane_pushed hl hocc] at ha
    rcases List.mem_append.mp ha with ha | ha
    · exact Memory.isSome_writeLanes (h.written hp p hpl a ha)
    · rw [List.mem_singleton.mp ha]
      exact Memory.isSome_writeLanes_laneAddr hpl

theorem StoreOk.pop {lanes : List PlayerId} {capMax size k : Nat} {q : Queue} {m : Memory}
    (h : StoreOk lanes capMax size q m) (hp : q.present = true) (hk : k ≤ q.occ) :
    StoreOk lanes capMax size (q.popped k) m := by
  have hl := h.legal hp
  refine ⟨fun _ => Queue.legal_popped hl hk, fun hn => ?_, fun _ p hpl a ha => ?_, h.wf, h.size⟩
  · exact absurd (hp.symm.trans hn) (by decide)
  · rw [Queue.occ_popped hl hk, Queue.headLane_popped, Nat.add_sub_cancel' hk] at ha
    exact h.written hp p hpl a (List.mem_of_mem_drop ha)

theorem StoreOk.of_ops {lanes : List PlayerId} {capMax size : Nat} {b b' : Queue × Memory}
    (h : StoreOk lanes capMax size b.1 b.2) (hops : StoreOps lanes capMax size b b') :
    StoreOk lanes capMax size b'.1 b'.2 := by
  induction hops with
  | refl => exact h
  | tail _ hop ih =>
    cases hop with
    | alloc c hpos hmax => exact ih.alloc hpos hmax
    | free => exact ih.free
    | push f hp hroom hsize => exact ih.push f hp hroom hsize
    | pop k hp hk => exact ih.pop hp (hk (ih.legal hp))

theorem State.BuffersOk.of_ops {s t : State} (h : s.BuffersOk) (hc : t.cfg = s.cfg)
    (hrb : RbOps s t) (htb : TbOps s t) : t.BuffersOk := by
  obtain ⟨h1, h2⟩ := (buffersOk_iff s).mp h
  rw [buffersOk_iff, State.rbmSize, State.tbmSize, hc]
  exact ⟨h1.of_ops hrb, h2.of_ops htb⟩

/-! ### What each core does, as operations -/

section
variable {s t : State}

theorem rbPushCore_ops {v : Word} (h : rbPushCore v s = .ok (some t)) : RbOps s t := by
  obtain ⟨hp, hroom, hsize, rfl⟩ := rbPushCore_eq_some.mp h
  refine .single ?_
  have := StoreOp.push (lanes := [.p0]) (capMax := s.cfg.capMax) (size := s.rbmSize) (m := s.rbm)
    (fun _ => v) hp hroom (by simpa [Queue.laneAddr_p0] using hsize)
  simpa [Memory.writeLanes, Queue.laneAddr_p0] using this

/-- A buffer that is not empty has a word to pop. -/
theorem Queue.one_le_occ {q : Queue} {capMax : Nat} (hne : ¬ q.isEmpty) (hl : q.legal capMax) :
    1 ≤ q.occ :=
  Nat.pos_of_ne_zero fun h0 => hne ((Queue.isEmpty_iff hl).mpr h0)

theorem rbPopCore_ops {v : Word} (h : rbPopCore s = .ok (some (v, t))) : RbOps s t := by
  obtain ⟨hp, hne, -, -, rfl⟩ := rbPopCore_eq_some.mp h
  exact .single (.pop 1 hp (Queue.one_le_occ hne))

theorem rbReadBulkCore_ops {n : Nat} {out : List Word} (h : rbReadBulkCore n s = .ok (out, t)) :
    RbOps s t := by
  obtain ⟨hp, -, -, rfl⟩ := rbReadBulkCore_eq_ok.mp h
  exact .single (.pop _ hp fun _ => Nat.min_le_left _ _)

/-- What a bulk write does first: it answers at once, or it pushes a word and goes on. -/
theorem rbWriteBulkCore_cases {ws : List Word} {k : Nat} (h : rbWriteBulkCore ws s = .ok (k, t)) :
    t = s ∨ ∃ v vs u k', ws = v :: vs ∧ rbPushCore v s = .ok (some u) ∧
      rbWriteBulkCore vs u = .ok (k', t) := by
  cases ws with
  | nil =>
    unfold rbWriteBulkCore at h
    split_ifs at h
    cases h
    exact .inl rfl
  | cons v vs =>
    unfold rbWriteBulkCore at h
    split at h
    · cases h
    · cases h
      exact .inl rfl
    · rename_i u hu
      split at h
      · rename_i k' w hw
        cases h
        exact .inr ⟨v, vs, u, k', rfl, hu, hw⟩
      · cases h

theorem rbWriteBulkCore_ops {ws : List Word} {k : Nat} (h : rbWriteBulkCore ws s = .ok (k, t)) :
    RbOps s t := by
  induction ws generalizing s k with
  | nil =>
    rcases rbWriteBulkCore_cases h with rfl | ⟨v, vs, u, k', hws, -⟩
    · exact .refl
    · cases hws
  | cons v vs ih =>
    rcases rbWriteBulkCore_cases h with rfl | ⟨v, vs, u, k', hws, hu, ht⟩
    · exact .refl
    · cases hws
      have hsu := rbPushCore_ops hu
      obtain ⟨-, -, -, rfl⟩ := rbPushCore_eq_some.mp hu
      exact hsu.trans (ih ht)

theorem rbAllocCore_ops {cap : Word} (h : rbAllocCore cap s = .ok t) : RbOps s t := by
  obtain ⟨-, ⟨hpos, hmax⟩, rfl⟩ := rbAllocCore_eq_ok.mp h
  exact .single (.alloc _ hpos hmax)

theorem tbAllocCore_ops {cap : Word} (h : tbAllocCore cap s = .ok t) : TbOps s t := by
  obtain ⟨-, ⟨hpos, hmax⟩, rfl⟩ := tbAllocCore_eq_ok.mp h
  exact .single (.alloc _ hpos hmax)

theorem tbPushCore_ops {v : Four Word} (h : tbPushCore v s = .ok (some t)) : TbOps s t := by
  obtain ⟨hp, hroom, m, hm, rfl⟩ := tbPushCore_eq_some.mp h
  obtain ⟨⟨h0, h1, h2, h3⟩, rfl⟩ := tbWriteTuple_eq_ok.mp hm
  refine .single (.push v.get hp hroom fun p _ => ?_)
  cases p <;> assumption

theorem tbPopCore_ops {v : Four Word} (h : tbPopCore s = .ok (some (v, t))) : TbOps s t := by
  obtain ⟨hpeek, rfl⟩ := tbPopCore_eq_some.mp h
  obtain ⟨hp, hne, -⟩ := tbPeekCore_eq_some.mp hpeek
  exact .single (.pop 1 hp (Queue.one_le_occ hne))

/-- "The shared read cursor advances by the least count" (42_transfer_buffer.md R219), which is at
most what is queued. -/
theorem Queue.least_bulkCounts_le (q : Queue) (l : Four Nat) : (q.bulkCounts l).least ≤ q.occ := by
  simp only [Queue.bulkCounts, Four.map, Four.least]
  omega

theorem tbReadBulkCore_ops {l n : Four Nat} {out : Four (List Word)}
    (h : tbReadBulkCore l s = .ok (n, out, t)) : TbOps s t := by
  obtain ⟨hp, -, -, rfl⟩ := tbReadBulkCore_eq_ok.mp h
  exact .single (.pop _ hp fun _ => Queue.least_bulkCounts_le _ _)

end

end Sys2Proof.Machine

/-! ## What a step of FG can do to the machine (20_memory.md R99 to R101)

Each atomic step of FG is one access of a link register or one critical section, followed by FG's
own bookkeeping. `FgStep` says once what may come of it. -/

namespace Sys2Proof.Machine

section
variable {s u t : State}

/-! ### Bookkeeping, register writes and buffer operations apart -/

/-- t is u but for FG's bookkeeping: its position, the ports, the handle, the session's fields. -/
def State.Books (u t : State) : Prop :=
  t = { u with
    smInited := t.smInited, smRate := t.smRate, smRole := t.smRole, scState := t.scState
    scId := t.scId, scRate := t.scRate, blockFlag := t.blockFlag, isrInstalled := t.isrInstalled
    fg := t.fg, port := t.port, resp := t.resp }

theorem State.Books.refl (s : State) : s.Books s := rfl

theorem State.Books.trans (h1 : s.Books u) (h2 : u.Books t) : s.Books t :=
  Eq.trans h2 (by rw [h1])

/-- RECV still holds what it held, or SENTINEL, where a transfer is in progress. -/
def State.KeepsProgress (s t : State) : Prop :=
  t.xferActive = true → t.recv = fourSentinels ∨ (s.xferActive = true ∧ t.recv = s.recv)

/-- What a write of RCNT or SIOCNT can do: it changes no more than RCNT, SIOCNT, RECV and LINK's
fields. -/
structure LinkWrite (s t : State) : Prop where
  frame    : t = { s with
    rcnt := t.rcnt, sio := t.sio, recv := t.recv, xferActive := t.xferActive
    sendLatch := t.sendLatch, idValid := t.idValid }
  progress : s.KeepsProgress t

theorem LinkWrite.trans (h1 : LinkWrite s u) (h2 : LinkWrite u t) : LinkWrite s t where
  frame := Eq.trans h2.frame (by rw [h1.frame])
  progress ht := by
    rcases h2.progress ht with h | ⟨hu, htu⟩
    · exact .inl h
    · exact htu ▸ (h1.progress hu)

theorem LinkWrite.settleMode (before s : State) : LinkWrite s (before.settleMode s) := by
  rcases settleMode_cases before s with ⟨h, -⟩ | ⟨h, -⟩ | ⟨h, -⟩ | ⟨h, -⟩ <;> rw [h]
  · exact ⟨rfl, fun hx => .inr ⟨hx, rfl⟩⟩
  · exact ⟨rfl, fun hx => .inr ⟨hx, rfl⟩⟩
  · exact ⟨rfl, fun hx => .inr ⟨hx, rfl⟩⟩
  · exact ⟨rfl, nofun⟩

theorem LinkWrite.requestStart (s : State) : LinkWrite s s.requestStart := by
  rcases requestStart_cases s with h | ⟨h, -⟩ <;> rw [h]
  · exact ⟨rfl, fun hx => .inr ⟨hx, rfl⟩⟩
  · exact ⟨rfl, fun _ => .inl rfl⟩

theorem LinkWrite.writeRcnt (v : Word) (s : State) : LinkWrite s (s.writeRcnt v) := by
  have h1 : LinkWrite s { s with rcnt := v } := ⟨rfl, fun hx => .inr ⟨hx, rfl⟩⟩
  have h2 := h1.trans (.settleMode s _)
  unfold State.writeRcnt
  split_ifs
  · exact h2.trans ⟨rfl, fun hx => .inr ⟨hx, rfl⟩⟩
  · exact h2

theorem LinkWrite.writeSiocnt (v : Word) (s : State) : LinkWrite s (s.writeSiocnt v) := by
  have h1 : LinkWrite s { s with sio := s.sio.store v } := ⟨rfl, fun hx => .inr ⟨hx, rfl⟩⟩
  have h2 := h1.trans (.settleMode s _)
  unfold State.writeSiocnt
  split_ifs
  · exact h2.trans (.requestStart _)
  · exact h2

/-- A standalone buffer command: operations on the buffers, and the response. -/
structure BufferStep (s t : State) : Prop where
  frame : t = { s with
    rb := t.rb, rbm := t.rbm, tb := t.tb, tbm := t.tbm, fg := .idle, resp := t.resp }
  rb    : RbOps s t
  tb    : TbOps s t

/-! ### A step of FG -/

/-- FG is about to write SEND: in discovery, or by SM.SEND where `sm_check` passes. -/
def State.WritesSend (s : State) : Prop := (∃ c, s.fg = .discWriteSend c) ∨ smCheck true s = none

/-- FG is about to allocate or release a session's buffers (43_session.md R241, R249). -/
def State.MovesBuffers (s : State) : Prop :=
  (∃ l id, s.fg = .newInstall l id) ∨ s.fg = .leaveTeardown

/-- What a step of FG can do. -/
structure FgStep (s t : State) : Prop where
  cfg        : t.cfg = s.cfg
  env        : t.env = s.env
  tick       : t.tick = s.tick
  isr        : t.isr = s.isr
  irqPending : t.irqPending = s.irqPending
  send       : t.send = s.send ∨ s.WritesSend
  progress   : s.KeepsProgress t
  rb         : RbOps s t
  tb         : TbOps s t
  /-- RB's read cursor, TB's write cursor and TBM are the interrupt agent's in a session
  (20_memory.md R105). -/
  sides      : s.cfg.config = .session → ¬ s.MovesBuffers →
    t.rb.r = s.rb.r ∧ t.tb.w = s.tb.w ∧ t.tbm = s.tbm

theorem FgStep.books (h : FgStep s u) (hb : u.Books t) : FgStep s t := by
  rw [hb]
  exact { h with }

theorem FgStep.refl (s : State) : FgStep s s :=
  ⟨rfl, rfl, rfl, rfl, rfl, .inl rfl, fun hx => .inr ⟨hx, rfl⟩, .refl, .refl,
    fun _ _ => ⟨rfl, rfl, rfl⟩⟩

theorem State.Books.fgStep (hb : s.Books t) : FgStep s t := (FgStep.refl s).books hb

/-- A register write between two stretches of bookkeeping. -/
theorem LinkWrite.fgStep_of_books (hb : s.Books u) (h : LinkWrite u t) : FgStep s t := by
  have hp := h.progress
  rw [h.frame] at hp ⊢
  rw [hb] at hp ⊢
  exact ⟨rfl, rfl, rfl, rfl, rfl, .inl rfl, hp, .refl, .refl, fun _ _ => ⟨rfl, rfl, rfl⟩⟩

theorem LinkWrite.fgStep (h : LinkWrite s t) : FgStep s t := h.fgStep_of_books (.refl s)

theorem fgStep_writeSend (hw : s.WritesSend) (v : Word) : FgStep s (s.writeSend v) :=
  ⟨rfl, rfl, rfl, rfl, rfl, .inr hw, fun hx => .inr ⟨hx, rfl⟩, .refl, .refl,
    fun _ _ => ⟨rfl, rfl, rfl⟩⟩

theorem fgStep_clearSeen (s : State) : FgStep s { s with seenComplete := false } :=
  ⟨rfl, rfl, rfl, rfl, rfl, .inl rfl, fun hx => .inr ⟨hx, rfl⟩, .refl, .refl,
    fun _ _ => ⟨rfl, rfl, rfl⟩⟩

/-- A critical section of FG's on the buffers. -/
theorem fgStep_of_ops
    (hf : t = { s with rb := t.rb, rbm := t.rbm, tb := t.tb, tbm := t.tbm })
    (hrb : RbOps s t) (htb : TbOps s t)
    (hs : s.cfg.config = .session → ¬ s.MovesBuffers →
      t.rb.r = s.rb.r ∧ t.tb.w = s.tb.w ∧ t.tbm = s.tbm) : FgStep s t := by
  rw [hf]
  exact ⟨rfl, rfl, rfl, rfl, rfl, .inl rfl, fun hx => .inr ⟨hx, rfl⟩, hrb, htb, hs⟩

theorem BufferStep.fgStep (h : BufferStep s t) (hc : s.cfg.config = .standalone) : FgStep s t := by
  have hsides : s.cfg.config = .session → ¬ s.MovesBuffers →
      t.rb.r = s.rb.r ∧ t.tb.w = s.tb.w ∧ t.tbm = s.tbm := fun hn => nomatch hc.symm.trans hn
  refine FgStep.books
    (u := { s with rb := t.rb, rbm := t.rbm, tb := t.tb, tbm := t.tbm })
    (fgStep_of_ops rfl h.rb h.tb hsides) ?_
  rw [h.frame]
  rfl

/-- Taking the command off the port is bookkeeping too. -/
theorem FgStep.of_take {rest : List Word} (h : FgStep (s.take rest) t) : FgStep s t :=
  { h with }

theorem rbWriteBulkCore_fgStep {ws : List Word} {k : Nat} (h : rbWriteBulkCore ws s = .ok (k, t)) :
    FgStep s t := by
  obtain ⟨hf, -, -, -, hr, -⟩ := rbWriteBulkCore_frame h
  have hops := rbWriteBulkCore_ops h
  rw [hf] at hops ⊢
  exact fgStep_of_ops rfl hops .refl fun _ _ => ⟨hr, rfl, rfl⟩

theorem tbReadBulkCore_fgStep {l n : Four Nat} {out : Four (List Word)}
    (h : tbReadBulkCore l s = .ok (n, out, t)) : FgStep s t := by
  have hops := tbReadBulkCore_ops h
  obtain ⟨-, -, -, rfl⟩ := tbReadBulkCore_eq_ok.mp h
  exact fgStep_of_ops rfl .refl hops fun _ _ => ⟨rfl, rfl, rfl⟩

theorem tbPopCore_fgStep {v : Four Word} (h : tbPopCore s = .ok (some (v, t))) : FgStep s t := by
  have hops := tbPopCore_ops h
  obtain ⟨-, rfl⟩ := tbPopCore_eq_some.mp h
  exact fgStep_of_ops rfl .refl hops fun _ _ => ⟨rfl, rfl, rfl⟩

/-! ### The returns of the cores are bookkeeping -/

theorem smFail_books (c : SmCaller) (s : State) : s.Books (smFail c s) := by
  cases c <;> rfl

theorem initDone_books (c : SmCaller) (s : State) : s.Books (initDone c s) := by
  cases c <;> rfl

theorem readyDone_books (c : ReadyCaller) (s : State) : s.Books (readyDone c s) := by
  cases c <;> rfl

theorem discDone_books (c : SmCaller) (id : BitVec 2) (s : State) : s.Books (discDone c id s) := by
  cases c <;> rfl

theorem startDone_books (c : StartCaller) (st : Status) (s : State) :
    s.Books (startDone c st s) := by
  unfold startDone
  cases c with
  | command => rfl
  | tick => dsimp only; split_ifs <;> rfl
  | discover d =>
    dsimp only
    split_ifs
    · exact smFail_books d s
    · rfl
  | readAll l => dsimp only; split_ifs <;> rfl

/-! ### The steps of the composite commands -/

theorem startReadBusy_books (c : StartCaller) (s : State) : s.Books (startReadBusy c s) := by
  unfold startReadBusy
  split_ifs
  · exact startDone_books c _ s
  · cases s.smRole <;> rfl

theorem startReadReady_books (c : StartCaller) (s : State) : s.Books (startReadReady c s) := by
  unfold startReadReady
  split_ifs
  · rfl
  · exact startDone_books c _ s

theorem startReadErr_books (c : StartCaller) (s : State) : s.Books (startReadErr c s) := by
  unfold startReadErr
  split_ifs
  · exact startDone_books c _ s
  · exact startDone_books c _ s

theorem initReadErr_books (c : SmCaller) (rate : BaudRate) (s : State) :
    s.Books (initReadErr c rate s) := by
  unfold initReadErr
  split_ifs
  · exact smFail_books c s
  · rfl

theorem initReadRole_books (c : SmCaller) (rate : BaudRate) (s : State) :
    s.Books (initReadRole c rate s) :=
  .trans (u := { s with
    smRole := if s.flagSi = true then .child else .parent, smRate := rate, smInited := true })
    rfl (initDone_books c _)

theorem discReadId_books (c : SmCaller) (s : State) : s.Books (discReadId c s) := by
  unfold discReadId
  split_ifs <;> rfl

theorem discCheck_books (c : SmCaller) (id : BitVec 2) (s : State) :
    s.Books (discCheck c id s) := by
  unfold discCheck
  split_ifs
  · exact discDone_books c id s
  · rfl

theorem initWriteRcnt_fgStep (c : SmCaller) (rate : BaudRate) (s : State) :
    FgStep s (initWriteRcnt c rate s) := (LinkWrite.writeRcnt 0 s).fgStep.books rfl

theorem readyWriteRcnt_fgStep (c : ReadyCaller) (s : State) : FgStep s (readyWriteRcnt c s) :=
  (LinkWrite.writeRcnt 0 s).fgStep.books rfl

theorem smUnreadyCore_fgStep (s : State) : FgStep s (smUnreadyCore s) :=
  (LinkWrite.writeRcnt s.cfg.altRcnt s).fgStep

/-- What SC.NEW's critical section does (43_session.md R241). -/
theorem newInstall_eq_next {l : NewLocals} {id : BitVec 2} (h : newInstall l id s = .next t) :
    capacityLegal s.cfg l.cap ∧
      t = { s with
        rb := Queue.fresh l.cap.toNat, tb := Queue.fresh l.cap.toNat
        blockFlag := false, isrInstalled := true, fg := .newReadSio l id } := by
  unfold newInstall at h
  split at h
  · cases h
  · rename_i v hv
    split at h
    · cases h
    · rename_i w hw
      cases h
      obtain ⟨-, hc, rfl⟩ := rbAllocCore_eq_ok.mp hv
      obtain ⟨-, -, rfl⟩ := tbAllocCore_eq_ok.mp hw
      exact ⟨hc, rfl⟩

theorem newInstall_fgStep {l : NewLocals} {id : BitVec 2} (hfg : s.fg = .newInstall l id)
    (h : newInstall l id s = .next t) : FgStep s t := by
  obtain ⟨⟨hpos, hmax⟩, rfl⟩ := newInstall_eq_next h
  refine FgStep.books (u := { s with rb := Queue.fresh l.cap.toNat, tb := Queue.fresh l.cap.toNat })
    (fgStep_of_ops rfl ?_ ?_ fun _ hn => absurd (.inl ⟨l, id, hfg⟩) hn) rfl
  · exact .single (.alloc _ hpos hmax)
  · exact .single (.alloc _ hpos hmax)

theorem leaveTeardown_fgStep (hfg : s.fg = .leaveTeardown) : FgStep s (leaveTeardown s) :=
  FgStep.books (u := tbFreeCore (rbFreeCore s))
    (fgStep_of_ops rfl (.single .free) (.single .free) fun _ hn => absurd (.inr hfg) hn) rfl

theorem readAllRead_fgStep {l : ReadAllLocals} (h : readAllRead l s = .next t) : FgStep s t := by
  unfold readAllRead at h
  split_ifs at h
  · cases h
    exact State.Books.fgStep rfl
  · dsimp only at h
    split at h
    · cases h
    · rename_i n part u hu
      split_ifs at h <;> cases h <;> exact (tbReadBulkCore_fgStep hu).books rfl

theorem skipPeek_fgStep {k : Nat} (h : skipPeek k s = .next t) : FgStep s t := by
  unfold skipPeek at h
  split at h
  · cases h
  · cases h
    exact State.Books.fgStep rfl
  · split_ifs at h <;> cases h <;> exact State.Books.fgStep rfl

theorem skipPop_fgStep {k : Nat} (h : skipPop k s = .next t) : FgStep s t := by
  unfold skipPop at h
  split at h
  · cases h
  · cases h
  · rename_i u hu
    cases h
    exact (tbPopCore_fgStep hu).books rfl

/-- A step of a command in progress. -/
theorem fgAdvance_fgStep (h : fgAdvance s = .next t) : FgStep s t := by
  revert h
  unfold fgAdvance
  cases hfg : s.fg with
  | idle => rintro ⟨⟩; exact .refl s
  | initReadSio c rate => rintro ⟨⟩; exact State.Books.fgStep rfl
  | initWriteSio c rate v => rintro ⟨⟩; exact (LinkWrite.writeSiocnt _ s).fgStep.books rfl
  | initReadErr c rate => rintro ⟨⟩; exact (initReadErr_books c rate s).fgStep
  | initReadRole c rate => rintro ⟨⟩; exact (initReadRole_books c rate s).fgStep
  | readyWriteRcnt c => rintro ⟨⟩; exact readyWriteRcnt_fgStep c s
  | readyReadSio c => rintro ⟨⟩; exact State.Books.fgStep rfl
  | readyWriteSio c v =>
    rintro ⟨⟩; exact (LinkWrite.writeSiocnt _ s).fgStep.books (readyDone_books c _)
  | startReadBusy c => rintro ⟨⟩; exact (startReadBusy_books c s).fgStep
  | startReadSio c => rintro ⟨⟩; exact State.Books.fgStep rfl
  | startWriteSio c v => rintro ⟨⟩; exact (LinkWrite.writeSiocnt _ s).fgStep.books rfl
  | startReadReady c => rintro ⟨⟩; exact (startReadReady_books c s).fgStep
  | startReadErr c => rintro ⟨⟩; exact (startReadErr_books c s).fgStep
  | discWriteUnready c => rintro ⟨⟩; exact (smUnreadyCore_fgStep s).books rfl
  | discWriteSend c => rintro ⟨⟩; exact (fgStep_writeSend (.inl ⟨c, hfg⟩) _).books rfl
  | discClear c => rintro ⟨⟩; exact (fgStep_clearSeen s).books rfl
  | discReadId c => rintro ⟨⟩; exact (discReadId_books c s).fgStep
  | discCheck c id => rintro ⟨⟩; exact (discCheck_books c id s).fgStep
  | statusReadRcnt v => rintro ⟨⟩; exact State.Books.fgStep rfl
  | newInstall l id => exact newInstall_fgStep hfg
  | newReadSio l id => rintro ⟨⟩; exact State.Books.fgStep rfl
  | newWriteSio l id v => rintro ⟨⟩; exact (LinkWrite.writeSiocnt _ s).fgStep.books rfl
  | readAllRead l => exact readAllRead_fgStep
  | skipPeek k => exact skipPeek_fgStep
  | skipPop k => exact skipPop_fgStep
  | leaveWriteSio v => rintro ⟨⟩; exact (LinkWrite.writeSiocnt _ s).fgStep.books rfl
  | leaveTeardown => rintro ⟨⟩; exact leaveTeardown_fgStep hfg

/-! ### The SM commands -/

theorem execSmInit_fgStep {rate : BaudRate} (h : execSmInit rate s = .next t) : FgStep s t := by
  unfold execSmInit at h
  split at h <;> cases h
  · exact State.Books.fgStep rfl
  · exact initWriteRcnt_fgStep _ _ s

theorem execSmStart_fgStep (h : execSmStart s = .next t) : FgStep s t := by
  unfold execSmStart at h
  split at h <;> cases h
  · exact State.Books.fgStep rfl
  · exact (startReadBusy_books _ s).fgStep

theorem execSmReady_fgStep (h : execSmReady s = .next t) : FgStep s t := by
  unfold execSmReady at h
  split at h <;> cases h
  · exact State.Books.fgStep rfl
  · exact readyWriteRcnt_fgStep _ s

theorem execSmUnready_fgStep (h : execSmUnready s = .next t) : FgStep s t := by
  unfold execSmUnready at h
  split at h <;> cases h
  · exact State.Books.fgStep rfl
  · exact (smUnreadyCore_fgStep s).books rfl

theorem execSmDiscover_fgStep (h : execSmDiscover s = .next t) : FgStep s t := by
  unfold execSmDiscover at h
  split at h <;> cases h
  · exact State.Books.fgStep rfl
  · exact (smUnreadyCore_fgStep s).books rfl

theorem execSmSend_fgStep {word : Word} (h : execSmSend word s = .next t) : FgStep s t := by
  unfold execSmSend at h
  split at h <;> cases h
  · exact State.Books.fgStep rfl
  · exact (fgStep_writeSend (.inr ‹_›) word).books rfl

/-- SM.STATUS, SM.ID, SM.RECV and SM.ROLE only read. -/
theorem execSmStatus_books (h : execSmStatus s = .next t) : s.Books t := by
  unfold execSmStatus at h
  split at h <;> cases h <;> rfl

theorem execSmId_books (h : execSmId s = .next t) : s.Books t := by
  unfold execSmId at h
  split at h <;> cases h <;> rfl

theorem execSmRecv_books {slot : PlayerId} (h : execSmRecv slot s = .next t) : s.Books t := by
  unfold execSmRecv at h
  split at h <;> cases h <;> rfl

theorem execSmRole_books (h : execSmRole s = .next t) : s.Books t := by
  unfold execSmRole at h
  split at h <;> cases h <;> rfl

/-! ### The SC commands -/

/-- SC.NEW answers, or its checks pass and sm_init_core begins (43_session.md R241). -/
theorem execScNew_eq_next {rate : BaudRate} {cap : Word} (h : execScNew rate cap s = .next t) :
    (∃ st, t = s.answer st) ∨
    (s.rb.present = false ∧ s.tb.present = false ∧ capacityLegal s.cfg cap ∧
      ¬ (s.scState = .iddisc ∨ s.scState = .active) ∧
      t = initWriteRcnt (.new ⟨s.scState, rate, cap⟩) rate { s with scState := .iddisc }) := by
  unfold execScNew at h
  split at h
  · cases h
    exact .inl ⟨_, rfl⟩
  · rename_i habsent
    split at h
    · cases h
      exact .inl ⟨_, rfl⟩
    · rename_i hlegal
      split at h
      · cases h
      · rename_i hstate
        cases h
        have hab : s.rb.present = false ∧ s.tb.present = false := by simpa using habsent
        exact .inr ⟨hab.1, hab.2, not_not.mp hlegal, hstate, rfl⟩

theorem execScNew_fgStep {rate : BaudRate} {cap : Word} (h : execScNew rate cap s = .next t) :
    FgStep s t := by
  rcases execScNew_eq_next h with ⟨st, rfl⟩ | ⟨-, -, -, -, rfl⟩
  · exact State.Books.fgStep rfl
  · have hb : s.Books { s with scState := .iddisc } := rfl
    exact ((LinkWrite.writeRcnt 0 _).fgStep_of_books hb).books rfl

theorem execScQueueSend_fgStep {words : List Word} (h : execScQueueSend words s = .next t) :
    FgStep s t := by
  unfold execScQueueSend at h
  split at h
  · cases h
    exact State.Books.fgStep rfl
  · split at h <;> cases h
    exact (rbWriteBulkCore_fgStep ‹_›).books rfl

theorem execScTick_books (h : execScTick s = .next t) : s.Books t := by
  unfold execScTick at h
  split at h <;> cases h
  · rfl
  · exact startReadBusy_books _ s

theorem execScReadBulk_fgStep {counts : Four Word} (h : execScReadBulk counts s = .next t) :
    FgStep s t := by
  unfold execScReadBulk at h
  split at h
  · cases h
    exact State.Books.fgStep rfl
  · split at h <;> cases h
    exact (tbReadBulkCore_fgStep ‹_›).books rfl

theorem execScReadAll_fgStep {counts : Four Word} (h : execScReadAll counts s = .next t) :
    FgStep s t := by
  unfold execScReadAll at h
  split at h
  · cases h
    exact State.Books.fgStep rfl
  · split_ifs at h
    · exact readAllRead_fgStep h
    · cases h
      exact State.Books.fgStep rfl

theorem execScSkipEmpty_fgStep (h : execScSkipEmpty s = .next t) : FgStep s t := by
  unfold execScSkipEmpty at h
  split at h
  · cases h
    exact State.Books.fgStep rfl
  · exact skipPeek_fgStep h

theorem execScId_books (h : execScId s = .next t) : s.Books t := by
  unfold execScId at h
  split at h <;> cases h <;> rfl

theorem execScBlock_books {flag : Bool} (h : execScBlock flag s = .next t) : s.Books t := by
  unfold execScBlock at h
  split at h <;> cases h <;> rfl

theorem execScLeave_books (h : execScLeave s = .next t) : s.Books t := by
  unfold execScLeave at h
  split at h <;> cases h <;> rfl

/-! ### The standalone buffer commands -/

/-- A command that answers after an operation on RB. -/
theorem bufferStep_rb {q : Queue} {m : Memory} (st : Status) (v : Word) (ws : List Word)
    (h : StoreOps [.p0] s.cfg.capMax s.rbmSize (s.rb, s.rbm) (q, m)) :
    BufferStep s ({ s with rb := q, rbm := m }.respond st v ws) := ⟨rfl, h, .refl⟩

/-- A command that answers after an operation on TB. -/
theorem bufferStep_tb {q : Queue} {m : Memory} (st : Status) (v : Word) (ws : List Word)
    (h : StoreOps tbLanes s.cfg.capMax s.tbmSize (s.tb, s.tbm) (q, m)) :
    BufferStep s ({ s with tb := q, tbm := m }.respond st v ws) := ⟨rfl, .refl, h⟩

/-- A command that only answers. -/
theorem bufferStep_respond (s : State) (st : Status) (v : Word) (ws : List Word) :
    BufferStep s (s.respond st v ws) := ⟨rfl, .refl, .refl⟩

theorem execRbAlloc_bufferStep {cap : Word} (h : execRbAlloc cap s = .next t) :
    BufferStep s t := by
  unfold execRbAlloc at h
  split at h <;> cases h
  · rename_i u hu
    have hops := rbAllocCore_ops hu
    obtain ⟨-, -, rfl⟩ := rbAllocCore_eq_ok.mp hu
    exact bufferStep_rb _ _ _ hops
  · exact bufferStep_respond s _ _ _

theorem execRbFree_bufferStep (h : execRbFree s = .next t) : BufferStep s t := by
  unfold execRbFree at h
  split_ifs at h <;> cases h
  · exact bufferStep_respond s _ _ _
  · exact bufferStep_rb _ _ _ (.single .free)

theorem execRbPush_bufferStep {word : Word} (h : execRbPush word s = .next t) :
    BufferStep s t := by
  unfold execRbPush at h
  split_ifs at h
  · cases h
    exact bufferStep_respond s _ _ _
  · split at h <;> cases h
    · rename_i u hu
      have hops := rbPushCore_ops hu
      obtain ⟨-, -, -, rfl⟩ := rbPushCore_eq_some.mp hu
      exact bufferStep_rb _ _ _ hops
    · exact bufferStep_respond s _ _ _

theorem execRbPop_bufferStep (h : execRbPop s = .next t) : BufferStep s t := by
  unfold execRbPop at h
  split_ifs at h
  · cases h
    exact bufferStep_respond s _ _ _
  · split at h <;> cases h
    · rename_i v u hu
      have hops := rbPopCore_ops hu
      obtain ⟨-, -, -, -, rfl⟩ := rbPopCore_eq_some.mp hu
      exact bufferStep_rb _ _ _ hops
    · exact bufferStep_respond s _ _ _

theorem execRbReadBulk_bufferStep {count : Word} (h : execRbReadBulk count s = .next t) :
    BufferStep s t := by
  unfold execRbReadBulk at h
  split_ifs at h
  · cases h
    exact bufferStep_respond s _ _ _
  · split at h <;> cases h
    rename_i out u hu
    have hops := rbReadBulkCore_ops hu
    obtain ⟨-, -, -, rfl⟩ := rbReadBulkCore_eq_ok.mp hu
    exact bufferStep_rb _ _ _ hops

theorem execRbWriteBulk_bufferStep {words : List Word} (h : execRbWriteBulk words s = .next t) :
    BufferStep s t := by
  unfold execRbWriteBulk at h
  split_ifs at h
  · cases h
    exact bufferStep_respond s _ _ _
  · split at h <;> cases h
    rename_i k u hu
    have hops := rbWriteBulkCore_ops hu
    rw [(rbWriteBulkCore_frame hu).1] at hops ⊢
    exact bufferStep_rb _ _ _ hops

theorem execRbLen_bufferStep (h : execRbLen s = .next t) : BufferStep s t := by
  unfold execRbLen at h
  split_ifs at h <;> cases h <;> exact bufferStep_respond s _ _ _

theorem execTbAlloc_bufferStep {cap : Word} (h : execTbAlloc cap s = .next t) :
    BufferStep s t := by
  unfold execTbAlloc at h
  split at h <;> cases h
  · rename_i u hu
    have hops := tbAllocCore_ops hu
    obtain ⟨-, -, rfl⟩ := tbAllocCore_eq_ok.mp hu
    exact bufferStep_tb _ _ _ hops
  · exact bufferStep_respond s _ _ _

theorem execTbFree_bufferStep (h : execTbFree s = .next t) : BufferStep s t := by
  unfold execTbFree at h
  split_ifs at h <;> cases h
  · exact bufferStep_respond s _ _ _
  · exact bufferStep_tb _ _ _ (.single .free)

theorem execTbPush_bufferStep {tuple : Four Word} (h : execTbPush tuple s = .next t) :
    BufferStep s t := by
  unfold execTbPush at h
  split_ifs at h
  · cases h
    exact bufferStep_respond s _ _ _
  · split at h <;> cases h
    · rename_i u hu
      have hops := tbPushCore_ops hu
      obtain ⟨-, -, m, -, rfl⟩ := tbPushCore_eq_some.mp hu
      exact bufferStep_tb _ _ _ hops
    · exact bufferStep_respond s _ _ _

theorem execTbPop_bufferStep (h : execTbPop s = .next t) : BufferStep s t := by
  unfold execTbPop at h
  split_ifs at h
  · cases h
    exact bufferStep_respond s _ _ _
  · split at h <;> cases h
    · rename_i v u hu
      have hops := tbPopCore_ops hu
      obtain ⟨-, rfl⟩ := tbPopCore_eq_some.mp hu
      exact bufferStep_tb _ _ _ hops
    · exact bufferStep_respond s _ _ _

theorem execTbPeek_bufferStep (h : execTbPeek s = .next t) : BufferStep s t := by
  unfold execTbPeek at h
  split_ifs at h
  · cases h
    exact bufferStep_respond s _ _ _
  · split at h <;> cases h <;> exact bufferStep_respond s _ _ _

theorem execTbReadBulk_bufferStep {counts : Four Word} (h : execTbReadBulk counts s = .next t) :
    BufferStep s t := by
  unfold execTbReadBulk at h
  split_ifs at h
  · cases h
    exact bufferStep_respond s _ _ _
  · split at h <;> cases h
    rename_i n out u hu
    have hops := tbReadBulkCore_ops hu
    obtain ⟨-, -, -, rfl⟩ := tbReadBulkCore_eq_ok.mp hu
    exact bufferStep_tb _ _ _ hops

theorem execTbLen_bufferStep (h : execTbLen s = .next t) : BufferStep s t := by
  unfold execTbLen at h
  split_ifs at h <;> cases h <;> exact bufferStep_respond s _ _ _

/-! ### Every step of FG's turn -/

/-- A standalone command is a buffer command (30_encoding.md R117). -/
theorem exec_bufferStep {i : Instr} (hi : i.op.config = .standalone) (h : exec i s = .next t) :
    BufferStep s t := by
  cases i with
  | rbAlloc cap => exact execRbAlloc_bufferStep h
  | rbFree => exact execRbFree_bufferStep h
  | rbPush word => exact execRbPush_bufferStep h
  | rbPop => exact execRbPop_bufferStep h
  | rbReadBulk count => exact execRbReadBulk_bufferStep h
  | rbWriteBulk words => exact execRbWriteBulk_bufferStep h
  | rbLen => exact execRbLen_bufferStep h
  | tbAlloc cap => exact execTbAlloc_bufferStep h
  | tbFree => exact execTbFree_bufferStep h
  | tbPush tuple => exact execTbPush_bufferStep h
  | tbPop => exact execTbPop_bufferStep h
  | tbPeek => exact execTbPeek_bufferStep h
  | tbReadBulk counts => exact execTbReadBulk_bufferStep h
  | tbLen => exact execTbLen_bufferStep h
  | _ => exact nomatch hi

/-- A command of a session. -/
theorem exec_fgStep {i : Instr} (hi : i.op.config = .session) (hx : i.op ≠ .isrXferDone)
    (h : exec i s = .next t) : FgStep s t := by
  cases i with
  | smInit rate => exact execSmInit_fgStep h
  | smStart => exact execSmStart_fgStep h
  | smReady => exact execSmReady_fgStep h
  | smUnready => exact execSmUnready_fgStep h
  | smStatus => exact (execSmStatus_books h).fgStep
  | smId => exact (execSmId_books h).fgStep
  | smSend word => exact execSmSend_fgStep h
  | smRecv slot => exact (execSmRecv_books h).fgStep
  | smDiscover => exact execSmDiscover_fgStep h
  | smRole => exact (execSmRole_books h).fgStep
  | scNew rate cap => exact execScNew_fgStep h
  | scQueueSend words => exact execScQueueSend_fgStep h
  | scTick => exact (execScTick_books h).fgStep
  | scReadBulk counts => exact execScReadBulk_fgStep h
  | scReadAll counts => exact execScReadAll_fgStep h
  | scSkipEmpty => exact execScSkipEmpty_fgStep h
  | scId => exact (execScId_books h).fgStep
  | scBlock flag => exact (execScBlock_books h).fgStep
  | scLeave => exact (execScLeave_books h).fgStep
  | isrXferDone => exact absurd rfl hx
  | _ => exact nomatch hi

/-- What the port lets FG issue (30_encoding.md R118). -/
theorem portDecode_eq_instr {config : PortConfig} {stream rest : List Word} {i : Instr}
    (h : portDecode config stream = .instr i rest) :
    i.op ≠ .isrXferDone ∧ i.op.config = config := by
  unfold portDecode at h
  split at h
  · split_ifs at h with hx hc
    cases h
    exact ⟨hx, not_not.mp hc⟩
  · rename_i hd
    exact absurd h (hd i rest)

/-- What taking the next command can do: it waits, the header is refused, or the command runs. -/
theorem portStep_eq_next (h : portStep s = .next t) :
    t = s ∨ (∃ rest, t = (s.take rest).answer .illegalCommand) ∨
    ∃ i rest, i.op ≠ .isrXferDone ∧ i.op.config = s.cfg.config ∧
      exec i (s.take rest) = .next t := by
  unfold portStep at h
  split at h
  · cases h
    exact .inl rfl
  · cases h
    exact .inr (.inl ⟨_, rfl⟩)
  · rename_i i rest hd
    obtain ⟨hx, hc⟩ := portDecode_eq_instr hd
    exact .inr (.inr ⟨i, rest, hx, hc, h⟩)

theorem portStep_fgStep (h : portStep s = .next t) : FgStep s t := by
  rcases portStep_eq_next h with rfl | ⟨rest, rfl⟩ | ⟨i, rest, hx, hc, hexec⟩
  · exact .refl t
  · exact State.Books.fgStep rfl
  · cases hcfg : s.cfg.config with
    | standalone => exact ((exec_bufferStep (hc.trans hcfg) hexec).fgStep hcfg).of_take
    | session => exact (exec_fgStep (hc.trans hcfg) hx hexec).of_take

/-- What FG's turn can do: nothing, or, with no handler running, the next command or the next step
of the command in progress. -/
theorem fgTurn_eq_next (h : fgTurn s = .next t) :
    t = s ∨ (s.isr = .idle ∧ ((s.fg = .idle ∧ portStep s = .next t) ∨ fgAdvance s = .next t)) := by
  unfold fgTurn at h
  split_ifs at h with hisr hfg
  · cases h
    exact .inl rfl
  · exact .inr ⟨by simpa [State.isrActive] using hisr, .inl ⟨hfg, h⟩⟩
  · exact .inr ⟨by simpa [State.isrActive] using hisr, .inr h⟩

theorem fgTurn_fgStep (h : fgTurn s = .next t) : FgStep s t := by
  rcases fgTurn_eq_next h with rfl | ⟨-, ⟨-, h⟩ | h⟩
  · exact .refl t
  · exact portStep_fgStep h
  · exact fgAdvance_fgStep h

end

end Sys2Proof.Machine

/-! ## The session's invariant, position by position (43_session.md R241, R249, R250)

The model states the session side of the invariant by what FGSEQ's position belongs to. `State.Fits`
states the same by position: what the step at that position needs. -/

namespace Sys2Proof.Machine

/-- SC.NEW's checks have passed (43_session.md R241). -/
def NewLocals.Checked (s : State) (l : NewLocals) : Prop :=
  capacityLegal s.cfg l.cap ∧ (l.prior = .uninit ∨ l.prior = .left)

/-- SC.READ_ALL has still to read, and its outputs hold what it has read (43_session.md R245). -/
def ReadAllLocals.Unfilled (l : ReadAllLocals) : Prop :=
  l.filled < l.len ∧ l.len < 2 ^ 16 ∧ l.out.l0.length = l.filled ∧ l.out.l1.length = l.filled ∧
    l.out.l2.length = l.filled ∧ l.out.l3.length = l.filled

/-- FG's own handle, with no session. -/
def State.Handle (s : State) : Prop := s.ownsHandle ∧ s.sessionDown

/-- An ACTIVE session, with all of its resources. -/
def State.Active (s : State) : Prop := s.scState = .active ∧ s.sessionUp

/-- What sm_init_core and discovery need of their caller. -/
def SmCaller.Fits (s : State) : SmCaller → Prop
  | .command => s.Handle
  | .new l => s.scState = .iddisc ∧ s.sessionDown ∧ l.Checked s

/-- What the discovery loop needs (40_transfer_state_machine.md R159). -/
def SmCaller.FitsLoop (s : State) (c : SmCaller) : Prop :=
  c.Fits s ∧ s.smInited = true ∧ s.multi ∧ (s.seenComplete = true → s.idValid = true)

/-- What sm_ready_core needs of its caller. -/
def ReadyCaller.Fits (s : State) : ReadyCaller → Prop
  | .command => s.Handle ∧ s.smInited = true
  | .discover c => c.Fits s ∧ s.smInited = true
  | .queueSend _ => s.Active

/-- Discovery relies on sm_ready_core's RCNT write. -/
def ReadyCaller.Serial (s : State) : ReadyCaller → Prop
  | .discover _ => s.rcnt[15] = false
  | .command | .queueSend _ => True

/-- What sm_start_core needs of its caller. -/
def StartCaller.Fits (s : State) : StartCaller → Prop
  | .command => s.Handle ∧ s.smInited = true
  | .tick => s.Active
  | .discover c => c.FitsLoop s
  | .readAll l => s.Active ∧ l.Unfilled

/-- What the step at a position of FGSEQ needs. -/
def State.Fits (s : State) : FgSeq → Prop
  | .idle => s.Active ∨ s.Handle
  | .initReadSio c _ => c.Fits s ∧ s.rcnt[15] = false
  | .initWriteSio c _ v => c.Fits s ∧ s.rcnt[15] = false ∧ s.sio.store v = s.sio
  | .initReadErr c _ => c.Fits s ∧ s.multi
  | .initReadRole c _ => c.Fits s ∧ s.multi
  | .readyWriteRcnt c => c.Fits s
  | .readyReadSio c => c.Fits s ∧ c.Serial s
  | .readyWriteSio c v => c.Fits s ∧ c.Serial s ∧ s.sio.store v = s.sio
  | .startReadBusy c => c.Fits s
  | .startReadSio c => c.Fits s
  | .startWriteSio c v => c.Fits s ∧ s.sio.store v = s.sio
  | .startReadReady c => c.Fits s
  | .startReadErr c => c.Fits s
  | .discWriteUnready c => c.Fits s ∧ s.smInited = true
  | .discWriteSend c => c.Fits s ∧ s.smInited = true
  | .discClear c => c.Fits s ∧ s.smInited = true ∧ s.multi
  | .discReadId c => c.FitsLoop s
  | .discCheck c id => c.FitsLoop s ∧ id = s.cfg.posHw.toBits
  | .statusReadRcnt _ => s.Handle ∧ s.smInited = true
  | .newInstall l id =>
    (s.scState = .iddisc ∧ s.sessionDown ∧ l.Checked s) ∧ s.smInited = true ∧
      id = s.cfg.posHw.toBits
  | .newReadSio l id =>
    (s.scState = .iddisc ∧ s.sessionUp ∧ l.Checked s) ∧ s.smInited = true ∧
      id = s.cfg.posHw.toBits
  | .newWriteSio l id v =>
    (s.scState = .iddisc ∧ s.sessionUp ∧ l.Checked s) ∧ s.smInited = true ∧
      id = s.cfg.posHw.toBits ∧ s.sio.store v = s.sio
  | .readAllRead l => s.Active ∧ l.Unfilled
  | .skipPeek _ => s.Active
  | .skipPop _ => s.Active ∧ ¬ s.tb.isEmpty
  | .leaveWriteSio v => s.Active ∧ s.sio.store v = s.sio
  | .leaveTeardown => s.Active ∧ s.sio.irq = false

/-- What holds wherever FGSEQ stands. -/
structure State.SessionFacts (s : State) : Prop where
  active    : s.scState = .active → s.smInited = true
  handler   : s.isr ≠ .idle → s.isrInstalled = true
  enabled   : s.sio.irq = true → s.isrInstalled = true
  sessionId : s.scState = .active → s.scId = s.cfg.posHw
  role      : s.smInited = true → s.smRole = s.cfg.roleHw

section
variable {s t : State}

/-- What the model's invariant says of a stretch of a command. -/
def State.FitsPhase (s : State) : Phase → Prop
  | .idle => s.Active ∨ s.Handle
  | .handle => s.Handle
  | .opening => s.scState = .iddisc ∧ s.sessionDown
  | .installed => s.scState = .iddisc ∧ s.sessionUp
  | .session => s.Active

/-- What the model's invariant says of a position of FGSEQ. -/
def State.At (s : State) (f : FgSeq) : Prop :=
  s.FitsPhase f.phase ∧ (f ≠ .idle → f.inInit = false → s.smInited = true) ∧
  (∀ l, f.newLocals = some l → l.Checked s) ∧ (∀ l, f.readAllLocals = some l → l.Unfilled) ∧
  (∀ k, f = .skipPop k → ¬ s.tb.isEmpty) ∧ (∀ v, f.sioLocal = some v → s.sio.store v = s.sio) ∧
  (f = .leaveTeardown → s.sio.irq = false) ∧ (f.rcntCleared = true → s.rcnt[15] = false) ∧
  (f.modeSet = true → s.sio.mode = 2) ∧
  (f.inLoop = true → s.seenComplete = true → s.idValid = true) ∧
  (∀ id, f.foundId = some id → id = s.cfg.posHw.toBits)

/-- What an SM core needs of its caller, by the caller's stretch and SC.NEW's locals. -/
theorem smCaller_fits_iff (c : SmCaller) :
    c.Fits s ↔ s.FitsPhase c.phase ∧ ∀ l, c.newLocals = some l → l.Checked s := by
  cases c <;> simp [SmCaller.Fits, State.FitsPhase, SmCaller.phase, SmCaller.newLocals, and_assoc]

/-- Both say the same of every position: what the position belongs to is what its step needs. -/
theorem at_iff_fits (hinited : s.Active → s.smInited = true) (f : FgSeq) : s.At f ↔ s.Fits f := by
  unfold State.At
  cases f
  case' readyWriteRcnt c | readyReadSio c | readyWriteSio c _ => cases c
  case' startReadBusy c | startReadSio c | startWriteSio c _ | startReadReady c | startReadErr c =>
    cases c
  all_goals
    simp [State.FitsPhase, FgSeq.phase, FgSeq.newLocals, FgSeq.readAllLocals, FgSeq.sioLocal,
      FgSeq.rcntCleared, FgSeq.modeSet, FgSeq.inLoop, FgSeq.inInit, FgSeq.foundId, State.Fits,
      smCaller_fits_iff, ReadyCaller.Fits, ReadyCaller.Serial, StartCaller.Fits, StartCaller.phase,
      ReadyCaller.phase, SmCaller.FitsLoop] <;> tauto

theorem phaseOk_iff (s : State) : s.phaseOk ↔ s.FitsPhase s.fg.phase := by
  unfold State.phaseOk
  cases s.fg.phase <;> rfl

/-- The model's session invariant, by position. -/
theorem sessionOk_iff (s : State) : s.SessionOk ↔ s.SessionFacts ∧ s.Fits s.fg := by
  constructor
  · intro h
    have hat : s.At s.fg :=
      ⟨(phaseOk_iff s).mp h.phase, h.inited, h.newOk, h.readAllOk, h.peeked, h.noRace, h.disabled,
        h.serial, h.multiMode, h.loopId, h.found⟩
    exact ⟨⟨h.active, h.handler, h.enabled, h.sessionId, h.role⟩,
      (at_iff_fits (fun ha => h.active ha.1) s.fg).mp hat⟩
  · rintro ⟨h, hfit⟩
    obtain ⟨hphase, hinited, hnew, hreadAll, hpeeked, hnoRace, hdisabled, hserial, hmode, hloop,
      hfound⟩ := (at_iff_fits (fun ha => h.active ha.1) s.fg).mpr hfit
    exact ⟨(phaseOk_iff s).mpr hphase, hinited, h.active, hnew, hreadAll, hpeeked, hnoRace,
      h.handler, h.enabled, hdisabled, hserial, hmode, hloop, hfound, h.sessionId, h.role⟩

theorem sessionOk_goto {f : FgSeq} (h : s.SessionFacts) (hfit : s.Fits f) : (s.goto f).SessionOk :=
  (sessionOk_iff _).mpr ⟨{ h with }, hfit⟩

theorem sessionOk_respond (h : s.SessionFacts) (hfit : s.Active ∨ s.Handle) (st : Status) (v : Word)
    (ws : List Word) : (s.respond st v ws).SessionOk :=
  (sessionOk_iff _).mpr ⟨{ h with }, hfit⟩

/-! ### The register writes of the cores -/

/-- `RCNT <- 0x0000` leaves no mode: it may enter one, where LINK draws ERR. -/
theorem writeRcnt_zero (s : State) :
    ∃ e i, s.writeRcnt 0 = { s with rcnt := 0, sio := { s.sio with err := e }, idValid := i } := by
  rw [writeRcnt_serial s (by decide)]
  rcases settleMode_cases s { s with rcnt := 0 } with
    ⟨h, -⟩ | ⟨h, -⟩ | ⟨-, hm, hn, -⟩ | ⟨-, hm, hn, -⟩
  · exact ⟨_, _, h⟩
  · exact ⟨_, _, h⟩
  · exact absurd ⟨by simp, hm.2⟩ hn
  · exact absurd ⟨by simp, hm.2⟩ hn

/-- `MODE <- 0b10, BAUD <- rate` leaves no mode either. -/
theorem writeModeBaud_eq {v : Word} (rate : BaudRate) (h : s.sio.store v = s.sio) :
    ∃ e i, s.writeSiocnt (withModeBaud rate v) =
      { s with sio := { s.sio with baud := rate, mode := 2, err := e }, idValid := i } := by
  rw [writeSiocnt_withModeBaud s rate h]
  rcases settleMode_cases s { s with sio := { s.sio with baud := rate, mode := 2 } } with
    ⟨h, -⟩ | ⟨h, -⟩ | ⟨-, hm, hn, -⟩ | ⟨-, hm, hn, -⟩
  · exact ⟨_, _, h⟩
  · exact ⟨_, _, h⟩
  · exact absurd ⟨hm.1, rfl⟩ hn
  · exact absurd ⟨hm.1, rfl⟩ hn

/-- The unready write (40_transfer_state_machine.md R153). -/
theorem smUnreadyCore_eq (h : s.cfg.altRcnt[15] = true) :
    ∃ x r, smUnreadyCore s =
      { s with rcnt := s.cfg.altRcnt, idValid := false, xferActive := x, recv := r } := by
  unfold smUnreadyCore
  rw [writeRcnt_alternate s h]
  split_ifs
  · exact ⟨_, _, rfl⟩
  · exact ⟨_, _, rfl⟩

/-- The start write (20_memory.md R90). -/
theorem writeStart_eq {v : Word} (h : s.sio.store v = s.sio) :
    ∃ x l r, s.writeSiocnt (withStart v) =
      { s with xferActive := x, sendLatch := l, recv := r } := by
  rw [writeSiocnt_withStart s h]
  rcases requestStart_cases s with h | ⟨h, -⟩
  · exact ⟨_, _, _, h⟩
  · exact ⟨_, _, _, h⟩

/-! ### The returns of the cores -/

theorem smFail_sessionOk {c : SmCaller} (h : s.SessionFacts) (hc : c.Fits s) :
    (smFail c s).SessionOk := by
  cases c with
  | command => exact sessionOk_respond h (.inr hc) _ _ _
  | new l =>
    obtain ⟨-, hdown, -, hprior⟩ := hc
    have hna : l.prior ≠ .active := by rcases hprior with hp | hp <;> simp [hp]
    have h' : ({ s with scState := l.prior } : State).SessionFacts :=
      ⟨fun ha => absurd ha hna, h.handler, h.enabled, fun ha => absurd ha hna, h.role⟩
    exact sessionOk_respond h' (.inr ⟨hprior, hdown⟩) _ _ _

theorem initDone_sessionOk {c : SmCaller} (h : s.SessionFacts) (hc : c.Fits s)
    (hi : s.smInited = true) : (initDone c s).SessionOk := by
  cases c with
  | command => exact sessionOk_respond h (.inr hc) _ _ _
  | new l => exact sessionOk_goto h ⟨hc, hi⟩

theorem discDone_sessionOk {c : SmCaller} {id : BitVec 2} (h : s.SessionFacts) (hc : c.FitsLoop s)
    (hid : id = s.cfg.posHw.toBits) : (discDone c id s).SessionOk := by
  obtain ⟨hc, hi, -, -⟩ := hc
  cases c with
  | command => exact sessionOk_respond h (.inr hc) _ _ _
  | new l => exact sessionOk_goto h ⟨hc, hi, hid⟩

theorem readyDone_sessionOk {c : ReadyCaller} (h : s.SessionFacts) (hc : c.Fits s)
    (hm : c.Serial s) (hmode : s.sio.mode = 2) : (readyDone c s).SessionOk := by
  cases c with
  | command => exact sessionOk_respond h (.inr hc.1) _ _ _
  | discover d => exact sessionOk_goto h ⟨hc.1, hc.2, hm, hmode⟩
  | queueSend k => exact sessionOk_respond h (.inl hc) _ _ _

theorem startDone_sessionOk {c : StartCaller} (st : Status) (h : s.SessionFacts) (hc : c.Fits s) :
    (startDone c st s).SessionOk := by
  cases c with
  | command => exact sessionOk_respond h (.inr hc.1) _ _ _
  | tick =>
    unfold startDone
    dsimp only
    split_ifs
    · exact sessionOk_respond h (.inl hc) _ _ _
    · exact sessionOk_respond h (.inl hc) _ _ _
  | discover d =>
    unfold startDone
    dsimp only
    split_ifs
    · exact smFail_sessionOk h hc.1
    · exact sessionOk_goto h hc
  | readAll l =>
    unfold startDone
    dsimp only
    split_ifs
    · exact sessionOk_respond h (.inl hc.1) _ _ _
    · exact sessionOk_goto h hc

/-! ### sm_init_core -/

theorem initWriteRcnt_sessionOk {c : SmCaller} (rate : BaudRate) (h : s.SessionFacts)
    (hc : c.Fits s) : (initWriteRcnt c rate s).SessionOk := by
  obtain ⟨e, i, hw⟩ := writeRcnt_zero s
  rw [initWriteRcnt, hw]
  exact sessionOk_goto { h with } ⟨hc, by simp⟩

theorem initWriteSio_sessionOk {c : SmCaller} {v : Word} (rate : BaudRate) (h : s.SessionFacts)
    (hc : c.Fits s) (hr : s.rcnt[15] = false) (hv : s.sio.store v = s.sio) :
    (initWriteSio c rate v s).SessionOk := by
  obtain ⟨e, i, hw⟩ := writeModeBaud_eq rate hv
  rw [initWriteSio, hw]
  exact sessionOk_goto { h with } ⟨hc, hr, rfl⟩

theorem initReadErr_sessionOk {c : SmCaller} (rate : BaudRate) (h : s.SessionFacts) (hc : c.Fits s)
    (hm : s.multi) : (initReadErr c rate s).SessionOk := by
  unfold initReadErr
  split_ifs
  · exact smFail_sessionOk h hc
  · exact sessionOk_goto h ⟨hc, hm⟩

/-- In multiplayer mode SI gives ROLE_HW (20_memory.md R94). -/
theorem role_of_flagSi (hm : s.multi) :
    (if s.flagSi = true then Role.child else Role.parent) = s.cfg.roleHw := by
  rw [flagSi_of_multi s hm]
  unfold Params.roleHw
  cases s.cfg.posHw <;> rfl

theorem initReadRole_sessionOk {c : SmCaller} (rate : BaudRate) (h : s.SessionFacts) (hc : c.Fits s)
    (hm : s.multi) : (initReadRole c rate s).SessionOk :=
  initDone_sessionOk
    ⟨fun _ => rfl, h.handler, h.enabled, h.sessionId, fun _ => role_of_flagSi hm⟩ hc rfl

/-! ### sm_ready_core -/

theorem readyWriteRcnt_sessionOk {c : ReadyCaller} (h : s.SessionFacts) (hc : c.Fits s) :
    (readyWriteRcnt c s).SessionOk := by
  obtain ⟨e, i, hw⟩ := writeRcnt_zero s
  rw [readyWriteRcnt, hw]
  refine sessionOk_goto { h with } ⟨hc, ?_⟩
  cases c <;> simp [ReadyCaller.Serial]

theorem readyWriteSio_sessionOk {c : ReadyCaller} {v : Word} (h : s.SessionFacts) (hc : c.Fits s)
    (hr : c.Serial s) (hv : s.sio.store v = s.sio) : (readyWriteSio c v s).SessionOk := by
  obtain ⟨e, i, hw⟩ := writeModeBaud_eq s.smRate hv
  rw [readyWriteSio, hw]
  exact readyDone_sessionOk { h with } hc hr rfl

/-! ### sm_start_core -/

theorem startReadBusy_sessionOk {c : StartCaller} (h : s.SessionFacts) (hc : c.Fits s) :
    (startReadBusy c s).SessionOk := by
  unfold startReadBusy
  split_ifs
  · exact startDone_sessionOk _ h hc
  · cases s.smRole with
    | parent => exact sessionOk_goto h hc
    | child => exact sessionOk_goto h hc

theorem startWriteSio_sessionOk {c : StartCaller} {v : Word} (h : s.SessionFacts) (hc : c.Fits s)
    (hv : s.sio.store v = s.sio) : (startWriteSio c v s).SessionOk := by
  obtain ⟨x, l, r, hw⟩ := writeStart_eq hv
  rw [startWriteSio, hw]
  exact sessionOk_goto { h with } hc

theorem startReadReady_sessionOk {c : StartCaller} (h : s.SessionFacts) (hc : c.Fits s) :
    (startReadReady c s).SessionOk := by
  unfold startReadReady
  split_ifs
  · exact sessionOk_goto h hc
  · exact startDone_sessionOk _ h hc

theorem startReadErr_sessionOk {c : StartCaller} (h : s.SessionFacts) (hc : c.Fits s) :
    (startReadErr c s).SessionOk := by
  unfold startReadErr
  split_ifs
  · exact startDone_sessionOk _ h hc
  · exact startDone_sessionOk _ h hc

/-! ### sm_discover_core -/

theorem discWriteUnready_sessionOk {c : SmCaller} (halt : s.cfg.altRcnt[15] = true)
    (h : s.SessionFacts) (hc : c.Fits s) (hi : s.smInited = true) :
    (discWriteUnready c s).SessionOk := by
  obtain ⟨x, r, hw⟩ := smUnreadyCore_eq halt
  rw [discWriteUnready, hw]
  exact sessionOk_goto { h with } ⟨hc, hi⟩

theorem discWriteSend_sessionOk {c : SmCaller} (h : s.SessionFacts) (hc : c.Fits s)
    (hi : s.smInited = true) : (discWriteSend c s).SessionOk :=
  sessionOk_goto (s := s.writeSend sentinel)
    { h with } ⟨hc, hi⟩

theorem discClear_sessionOk {c : SmCaller} (h : s.SessionFacts) (hc : c.Fits s)
    (hi : s.smInited = true) (hm : s.multi) : (discClear c s).SessionOk :=
  sessionOk_goto (s := { s with seenComplete := false })
    { h with } ⟨hc, hi, hm, nofun⟩

/-- The ID is read after a completion, so it is POS_HW (40_transfer_state_machine.md R159). -/
theorem discReadId_sessionOk {c : SmCaller} (h : s.SessionFacts) (hc : c.FitsLoop s) :
    (discReadId c s).SessionOk := by
  unfold discReadId
  split_ifs with hseen
  · have ⟨_, _, hm, hvalid⟩ := hc
    exact sessionOk_goto h ⟨hc, flagId_of_valid s hm (hvalid hseen)⟩
  · exact sessionOk_goto h hc

theorem discCheck_sessionOk {c : SmCaller} {id : BitVec 2} (h : s.SessionFacts) (hc : c.FitsLoop s)
    (hid : id = s.cfg.posHw.toBits) : (discCheck c id s).SessionOk := by
  unfold discCheck
  split_ifs
  · exact discDone_sessionOk h hc hid
  · exact sessionOk_goto h hc

/-! ### SC.NEW after discovery, and SC.LEAVE -/

theorem newInstall_sessionOk {l : NewLocals} {id : BitVec 2} (h : s.SessionFacts)
    (hfit : s.Fits (.newInstall l id)) (ht : newInstall l id s = .next t) : t.SessionOk := by
  obtain ⟨⟨hsc, -, hl⟩, hi, hid⟩ := hfit
  obtain ⟨-, rfl⟩ := newInstall_eq_next ht
  exact (sessionOk_iff _).mpr
    ⟨⟨h.active, fun _ => rfl, fun _ => rfl, h.sessionId, h.role⟩, ⟨hsc, ⟨rfl, rfl, rfl⟩, hl⟩, hi,
      hid⟩

theorem newWriteSio_sessionOk {l : NewLocals} {id : BitVec 2} {v : Word} (h : s.SessionFacts)
    (hfit : s.Fits (.newWriteSio l id v)) : (newWriteSio l id v s).SessionOk := by
  obtain ⟨⟨-, hup, -⟩, hi, rfl, hv⟩ := hfit
  have hinst : s.isrInstalled = true := hup.2.2
  rw [newWriteSio, writeSiocnt_withIrq s true hv]
  refine sessionOk_respond (s := { s with
    sio := { s.sio with irq := true }, scId := PlayerId.ofBits s.cfg.posHw.toBits, scRate := l.rate
    scState := .active }) ?_ (.inl ⟨rfl, hup⟩) _ _ _
  exact ⟨fun _ => hi, fun _ => hinst, fun _ => hinst, fun _ => PlayerId.ofBits_toBits _, h.role⟩

theorem leaveWriteSio_sessionOk {v : Word} (h : s.SessionFacts) (ha : s.Active)
    (hv : s.sio.store v = s.sio) : (leaveWriteSio v s).SessionOk := by
  rw [leaveWriteSio, writeSiocnt_withIrq s false hv]
  exact sessionOk_goto ⟨h.active, h.handler, nofun, h.sessionId, h.role⟩ ⟨ha, rfl⟩

/-- The teardown finds the interrupt disabled and no handler running, so nothing of the session is
left (43_session.md R249). -/
theorem leaveTeardown_sessionOk (h : s.SessionFacts) (hirq : s.sio.irq = false)
    (hisr : s.isr = .idle) : (leaveTeardown s).SessionOk := by
  have h' : ({ tbFreeCore (rbFreeCore s) with isrInstalled := false, scState := .left } :
      State).SessionFacts :=
    ⟨nofun, fun hn => absurd hisr hn, fun hn => absurd (hirq.symm.trans hn) nofun, nofun, h.role⟩
  exact sessionOk_respond h' (.inr ⟨.inr rfl, rfl, rfl, rfl⟩) _ _ _

/-! ### Reading TB in a session -/

/-- Popping TB changes nothing that the session's facts speak of. -/
theorem State.SessionFacts.tbPopped (h : s.SessionFacts) (k : Nat) :
    ({ s with tb := s.tb.popped k } : State).SessionFacts :=
  { h with }

/-- Each output of a bulk read has as many words as its count says (42_transfer_buffer.md R219). -/
theorem tbReadBulkCore_length {l n : Four Nat} {out : Four (List Word)}
    (h : tbReadBulkCore l s = .ok (n, out, t)) (p : PlayerId) : (out.get p).length = n.get p := by
  obtain ⟨-, rfl, hout, -⟩ := tbReadBulkCore_eq_ok.mp h
  obtain ⟨-, hmap⟩ := Memory.readAll_eq_ok.mp (hout p (by cases p <;> simp))
  have := congrArg List.length hmap
  simpa [Queue.headLane] using this.symm

/-- One round of SC.READ_ALL either fills its outputs or goes on with more words in them. -/
theorem unfilled_after_round {l : ReadAllLocals} {n : Four Nat} {out : Four (List Word)}
    (hl : l.Unfilled)
    (h : tbReadBulkCore ⟨l.len - l.filled, l.len - l.filled, l.len - l.filled, l.len - l.filled⟩ s =
      .ok (n, out, t)) (hlt : l.filled + n.l0 < l.len) :
    ReadAllLocals.Unfilled { l with filled := l.filled + n.l0, out := l.out.zip (· ++ ·) out } := by
  have h0 := tbReadBulkCore_length h .p0
  have h1 := tbReadBulkCore_length h .p1
  have h2 := tbReadBulkCore_length h .p2
  have h3 := tbReadBulkCore_length h .p3
  obtain ⟨-, hn, -, -⟩ := tbReadBulkCore_eq_ok.mp h
  obtain ⟨-, hlen, e0, e1, e2, e3⟩ := hl
  subst hn
  refine ⟨hlt, hlen, ?_, ?_, ?_, ?_⟩ <;>
    simp_all [Four.zip, Four.get, Queue.bulkCounts, Four.map]

theorem readAllRead_sessionOk {l : ReadAllLocals} (h : s.SessionFacts) (ha : s.Active)
    (hl : l.filled ≠ l.len → l.Unfilled) (ht : readAllRead l s = .next t) : t.SessionOk := by
  unfold readAllRead at ht
  split_ifs at ht with hfull
  · cases ht
    exact sessionOk_respond h (.inl ha) _ _ _
  · dsimp only at ht
    split at ht
    · cases ht
    · rename_i n out u hu
      obtain ⟨-, -, -, rfl⟩ := tbReadBulkCore_eq_ok.mp hu
      split_ifs at ht with hlt <;> cases ht
      · exact sessionOk_goto (h.tbPopped _) ⟨ha, unfilled_after_round (hl hfull) hu hlt⟩
      · exact sessionOk_respond (h.tbPopped _) (.inl ha) _ _ _

theorem skipPeek_sessionOk {k : Nat} (h : s.SessionFacts) (ha : s.Active)
    (ht : skipPeek k s = .next t) : t.SessionOk := by
  unfold skipPeek at ht
  split at ht
  · cases ht
  · cases ht
    exact sessionOk_respond h (.inl ha) _ _ _
  · rename_i v hv
    obtain ⟨-, hne, -⟩ := tbPeekCore_eq_some.mp hv
    split_ifs at ht <;> cases ht
    · exact sessionOk_respond h (.inl ha) _ _ _
    · exact sessionOk_goto h ⟨ha, hne⟩

theorem skipPop_sessionOk {k : Nat} (h : s.SessionFacts) (ha : s.Active)
    (ht : skipPop k s = .next t) : t.SessionOk := by
  unfold skipPop at ht
  split at ht
  · cases ht
  · cases ht
  · rename_i u hu
    cases ht
    obtain ⟨-, rfl⟩ := tbPopCore_eq_some.mp hu
    exact sessionOk_goto (h.tbPopped 1) ha

/-! ### A step of a command in progress -/

theorem fgAdvance_sessionOk (halt : s.cfg.altRcnt[15] = true) (hs : s.SessionOk)
    (hisr : s.isr = .idle) (ht : fgAdvance s = .next t) : t.SessionOk := by
  obtain ⟨h, hfit⟩ := (sessionOk_iff s).mp hs
  revert ht hfit
  unfold fgAdvance
  cases hfg : s.fg with
  | idle => rintro ⟨⟩ -; exact hs
  | initReadSio c rate =>
    rintro ⟨⟩ ⟨hc, hr⟩; exact sessionOk_goto h ⟨hc, hr, store_siocntRead s⟩
  | initWriteSio c rate v => rintro ⟨⟩ ⟨hc, hr, hv⟩; exact initWriteSio_sessionOk rate h hc hr hv
  | initReadErr c rate => rintro ⟨⟩ ⟨hc, hm⟩; exact initReadErr_sessionOk rate h hc hm
  | initReadRole c rate => rintro ⟨⟩ ⟨hc, hm⟩; exact initReadRole_sessionOk rate h hc hm
  | readyWriteRcnt c => rintro ⟨⟩ hc; exact readyWriteRcnt_sessionOk h hc
  | readyReadSio c =>
    rintro ⟨⟩ ⟨hc, hr⟩; exact sessionOk_goto h ⟨hc, hr, store_siocntRead s⟩
  | readyWriteSio c v => rintro ⟨⟩ ⟨hc, hr, hv⟩; exact readyWriteSio_sessionOk h hc hr hv
  | startReadBusy c => rintro ⟨⟩ hc; exact startReadBusy_sessionOk h hc
  | startReadSio c => rintro ⟨⟩ hc; exact sessionOk_goto h ⟨hc, store_siocntRead s⟩
  | startWriteSio c v => rintro ⟨⟩ ⟨hc, hv⟩; exact startWriteSio_sessionOk h hc hv
  | startReadReady c => rintro ⟨⟩ hc; exact startReadReady_sessionOk h hc
  | startReadErr c => rintro ⟨⟩ hc; exact startReadErr_sessionOk h hc
  | discWriteUnready c => rintro ⟨⟩ ⟨hc, hi⟩; exact discWriteUnready_sessionOk halt h hc hi
  | discWriteSend c => rintro ⟨⟩ ⟨hc, hi⟩; exact discWriteSend_sessionOk h hc hi
  | discClear c => rintro ⟨⟩ ⟨hc, hi, hm⟩; exact discClear_sessionOk h hc hi hm
  | discReadId c => rintro ⟨⟩ hc; exact discReadId_sessionOk h hc
  | discCheck c id => rintro ⟨⟩ ⟨hc, hid⟩; exact discCheck_sessionOk h hc hid
  | statusReadRcnt v => rintro ⟨⟩ ⟨hh, -⟩; exact sessionOk_respond h (.inr hh) _ _ _
  | newInstall l id => exact fun ht hfit => newInstall_sessionOk h hfit ht
  | newReadSio l id =>
    rintro ⟨⟩ ⟨hc, hi, hid⟩; exact sessionOk_goto h ⟨hc, hi, hid, store_siocntRead s⟩
  | newWriteSio l id v => rintro ⟨⟩ hfit; exact newWriteSio_sessionOk h hfit
  | readAllRead l => exact fun ht ⟨ha, hl⟩ => readAllRead_sessionOk h ha (fun _ => hl) ht
  | skipPeek k => exact fun ht ha => skipPeek_sessionOk h ha ht
  | skipPop k => exact fun ht ⟨ha, _⟩ => skipPop_sessionOk h ha ht
  | leaveWriteSio v => rintro ⟨⟩ ⟨ha, hv⟩; exact leaveWriteSio_sessionOk h ha hv
  | leaveTeardown => rintro ⟨⟩ ⟨_, hirq⟩; exact leaveTeardown_sessionOk h hirq hisr

/-! ### The commands of a session -/

/-- `sm_check` passes where FG owns the handle and, if asked, has initialised it
(40_transfer_state_machine.md R160). -/
theorem smCheck_eq_none {b : Bool} (h : smCheck b s = none) :
    s.ownsHandle ∧ (b = true → s.smInited = true) := by
  unfold smCheck at h
  split_ifs at h with h1 h2
  refine ⟨?_, fun hb => by simpa [hb] using h2⟩
  cases hsc : s.scState <;> simp_all [State.ownsHandle]

/-- `sc_require_active` passes in an ACTIVE session (43_session.md R240). -/
theorem scCheck_eq_none (h : scCheck s = none) : s.scState = .active := by
  unfold scCheck at h
  split_ifs at h with hs
  exact hs

theorem handle_of_smCheck {b : Bool} (hidle : s.Active ∨ s.Handle) (hck : smCheck b s = none) :
    s.Handle := by
  rcases hidle with ⟨ha, -⟩ | hh
  · rcases (smCheck_eq_none hck).1 with ho | ho <;> simp [ha] at ho
  · exact hh

theorem active_of_scCheck (hidle : s.Active ∨ s.Handle) (hck : scCheck s = none) : s.Active := by
  rcases hidle with ha | ⟨ho, -⟩
  · exact ha
  · rcases ho with ho | ho <;> simp [scCheck_eq_none hck] at ho

section
variable (h : s.SessionFacts) (hidle : s.Active ∨ s.Handle)
include h hidle

theorem execSmInit_sessionOk {rate : BaudRate} (ht : execSmInit rate s = .next t) :
    t.SessionOk := by
  unfold execSmInit at ht
  split at ht <;> cases ht
  · exact sessionOk_respond h hidle _ _ _
  · exact initWriteRcnt_sessionOk (c := .command) rate h (handle_of_smCheck hidle ‹_›)

theorem execSmStart_sessionOk (ht : execSmStart s = .next t) : t.SessionOk := by
  unfold execSmStart at ht
  split at ht <;> cases ht
  · exact sessionOk_respond h hidle _ _ _
  · rename_i hck
    exact startReadBusy_sessionOk (c := .command) h
      ⟨handle_of_smCheck hidle hck, (smCheck_eq_none hck).2 rfl⟩

theorem execSmReady_sessionOk (ht : execSmReady s = .next t) : t.SessionOk := by
  unfold execSmReady at ht
  split at ht <;> cases ht
  · exact sessionOk_respond h hidle _ _ _
  · rename_i hck
    exact readyWriteRcnt_sessionOk (c := .command) h
      ⟨handle_of_smCheck hidle hck, (smCheck_eq_none hck).2 rfl⟩

theorem execSmUnready_sessionOk (halt : s.cfg.altRcnt[15] = true)
    (ht : execSmUnready s = .next t) : t.SessionOk := by
  unfold execSmUnready at ht
  split at ht <;> cases ht
  · exact sessionOk_respond h hidle _ _ _
  · obtain ⟨x, r, hw⟩ := smUnreadyCore_eq halt
    have h' : (smUnreadyCore s).SessionFacts := by
      rw [hw]
      exact { h with }
    have hidle' : (smUnreadyCore s).Active ∨ (smUnreadyCore s).Handle := by
      rw [hw]
      exact hidle
    exact sessionOk_respond h' hidle' _ _ _

theorem execSmStatus_sessionOk (ht : execSmStatus s = .next t) : t.SessionOk := by
  unfold execSmStatus at ht
  split at ht <;> cases ht
  · exact sessionOk_respond h hidle _ _ _
  · rename_i hck
    exact sessionOk_goto h ⟨handle_of_smCheck hidle hck, (smCheck_eq_none hck).2 rfl⟩

theorem execSmId_sessionOk (ht : execSmId s = .next t) : t.SessionOk := by
  unfold execSmId at ht
  split at ht <;> cases ht <;> exact sessionOk_respond h hidle _ _ _

theorem execSmSend_sessionOk {word : Word} (ht : execSmSend word s = .next t) : t.SessionOk := by
  unfold execSmSend at ht
  split at ht <;> cases ht
  · exact sessionOk_respond h hidle _ _ _
  · exact sessionOk_respond (s := s.writeSend word)
      { h with } hidle _ _ _

theorem execSmRecv_sessionOk {slot : PlayerId} (ht : execSmRecv slot s = .next t) :
    t.SessionOk := by
  unfold execSmRecv at ht
  split at ht <;> cases ht <;> exact sessionOk_respond h hidle _ _ _

theorem execSmDiscover_sessionOk (halt : s.cfg.altRcnt[15] = true)
    (ht : execSmDiscover s = .next t) : t.SessionOk := by
  unfold execSmDiscover at ht
  split at ht <;> cases ht
  · exact sessionOk_respond h hidle _ _ _
  · rename_i hck
    exact discWriteUnready_sessionOk (c := .command) halt h (handle_of_smCheck hidle hck)
      ((smCheck_eq_none hck).2 rfl)

theorem execSmRole_sessionOk (ht : execSmRole s = .next t) : t.SessionOk := by
  unfold execSmRole at ht
  split at ht <;> cases ht <;> exact sessionOk_respond h hidle _ _ _

/-- Once SC.NEW's checks have passed there is no session, and UNINIT or LEFT is its `prior`
(43_session.md R241). -/
theorem execScNew_sessionOk {rate : BaudRate} {cap : Word} (ht : execScNew rate cap s = .next t) :
    t.SessionOk := by
  rcases execScNew_eq_next ht with ⟨st, rfl⟩ | ⟨hrb, -, hcap, -, rfl⟩
  · exact sessionOk_respond h hidle _ _ _
  · rcases hidle with ⟨-, hup, -⟩ | ⟨hown, hdown⟩
    · exact absurd (hrb.symm.trans hup) nofun
    · exact initWriteRcnt_sessionOk (s := { s with scState := .iddisc }) rate
        ⟨nofun, h.handler, h.enabled, nofun, h.role⟩ ⟨rfl, hdown, hcap, hown⟩

theorem execScQueueSend_sessionOk {words : List Word} (ht : execScQueueSend words s = .next t) :
    t.SessionOk := by
  unfold execScQueueSend at ht
  split at ht
  · cases ht
    exact sessionOk_respond h hidle _ _ _
  · rename_i hck
    have ⟨hsc, hup⟩ := active_of_scCheck hidle hck
    split at ht <;> cases ht
    rename_i k u hu
    obtain ⟨hf, -, hp, -⟩ := rbWriteBulkCore_frame hu
    rw [hf]
    exact sessionOk_goto { h with }
      ⟨hsc, hp, hup.2.1, hup.2.2⟩

theorem execScTick_sessionOk (ht : execScTick s = .next t) : t.SessionOk := by
  unfold execScTick at ht
  split at ht <;> cases ht
  · exact sessionOk_respond h hidle _ _ _
  · exact startReadBusy_sessionOk (c := .tick) h (active_of_scCheck hidle ‹_›)

theorem execScReadBulk_sessionOk {counts : Four Word} (ht : execScReadBulk counts s = .next t) :
    t.SessionOk := by
  unfold execScReadBulk at ht
  split at ht
  · cases ht
    exact sessionOk_respond h hidle _ _ _
  · have ha := active_of_scCheck hidle ‹_›
    split at ht <;> cases ht
    rename_i hu
    obtain ⟨-, -, -, rfl⟩ := tbReadBulkCore_eq_ok.mp hu
    exact sessionOk_respond (h.tbPopped _) (.inl ha) _ _ _

theorem execScReadAll_sessionOk {counts : Four Word} (ht : execScReadAll counts s = .next t) :
    t.SessionOk := by
  unfold execScReadAll at ht
  split at ht
  · cases ht
    exact sessionOk_respond h hidle _ _ _
  · rename_i hck
    split_ifs at ht
    · refine readAllRead_sessionOk h (active_of_scCheck hidle hck) (fun hne => ?_) ht
      exact ⟨Nat.pos_of_ne_zero (Ne.symm hne), counts.l0.isLt, rfl, rfl, rfl, rfl⟩
    · cases ht
      exact sessionOk_respond h hidle _ _ _

theorem execScSkipEmpty_sessionOk (ht : execScSkipEmpty s = .next t) : t.SessionOk := by
  unfold execScSkipEmpty at ht
  split at ht
  · cases ht
    exact sessionOk_respond h hidle _ _ _
  · exact skipPeek_sessionOk h (active_of_scCheck hidle ‹_›) ht

theorem execScId_sessionOk (ht : execScId s = .next t) : t.SessionOk := by
  unfold execScId at ht
  split at ht <;> cases ht <;> exact sessionOk_respond h hidle _ _ _

theorem execScBlock_sessionOk {flag : Bool} (ht : execScBlock flag s = .next t) : t.SessionOk := by
  unfold execScBlock at ht
  split at ht <;> cases ht
  · exact sessionOk_respond h hidle _ _ _
  · exact sessionOk_respond (s := { s with blockFlag := flag })
      { h with } hidle _ _ _

theorem execScLeave_sessionOk (ht : execScLeave s = .next t) : t.SessionOk := by
  unfold execScLeave at ht
  split at ht <;> cases ht
  · exact sessionOk_respond h hidle _ _ _
  · exact sessionOk_goto h ⟨active_of_scCheck hidle ‹_›, store_siocntRead s⟩

theorem exec_sessionOk (halt : s.cfg.altRcnt[15] = true) {i : Instr}
    (hi : i.op.config = .session) (hx : i.op ≠ .isrXferDone) (ht : exec i s = .next t) :
    t.SessionOk := by
  cases i with
  | smInit rate => exact execSmInit_sessionOk h hidle ht
  | smStart => exact execSmStart_sessionOk h hidle ht
  | smReady => exact execSmReady_sessionOk h hidle ht
  | smUnready => exact execSmUnready_sessionOk h hidle halt ht
  | smStatus => exact execSmStatus_sessionOk h hidle ht
  | smId => exact execSmId_sessionOk h hidle ht
  | smSend word => exact execSmSend_sessionOk h hidle ht
  | smRecv slot => exact execSmRecv_sessionOk h hidle ht
  | smDiscover => exact execSmDiscover_sessionOk h hidle halt ht
  | smRole => exact execSmRole_sessionOk h hidle ht
  | scNew rate cap => exact execScNew_sessionOk h hidle ht
  | scQueueSend words => exact execScQueueSend_sessionOk h hidle ht
  | scTick => exact execScTick_sessionOk h hidle ht
  | scReadBulk counts => exact execScReadBulk_sessionOk h hidle ht
  | scReadAll counts => exact execScReadAll_sessionOk h hidle ht
  | scSkipEmpty => exact execScSkipEmpty_sessionOk h hidle ht
  | scId => exact execScId_sessionOk h hidle ht
  | scBlock flag => exact execScBlock_sessionOk h hidle ht
  | scLeave => exact execScLeave_sessionOk h hidle ht
  | isrXferDone => exact absurd rfl hx
  | _ => exact nomatch hi

end

theorem portStep_sessionOk (halt : s.cfg.altRcnt[15] = true) (hc : s.cfg.config = .session)
    (hs : s.SessionOk) (hfg : s.fg = .idle) (ht : portStep s = .next t) : t.SessionOk := by
  obtain ⟨h, hfit⟩ := (sessionOk_iff s).mp hs
  rw [hfg] at hfit
  have htake (rest : List Word) : (s.take rest).SessionFacts :=
    { h with }
  rcases portStep_eq_next ht with rfl | ⟨rest, rfl⟩ | ⟨i, rest, hx, hi, hexec⟩
  · exact hs
  · exact sessionOk_respond (htake rest) hfit _ _ _
  · exact exec_sessionOk (htake rest) hfit halt (hi.trans hc) hx hexec

theorem fgTurn_sessionOk (halt : s.cfg.altRcnt[15] = true) (hc : s.cfg.config = .session)
    (hs : s.SessionOk) (ht : fgTurn s = .next t) : t.SessionOk := by
  rcases fgTurn_eq_next ht with rfl | ⟨hisr, ⟨hfg, ht⟩ | ht⟩
  · exact hs
  · exact portStep_sessionOk halt hc hs hfg ht
  · exact fgAdvance_sessionOk halt hs hisr ht

end

end Sys2Proof.Machine

/-! ## The other agents (10_state.md R52; 20_memory.md R105, R106) -/

namespace Sys2Proof.Machine

section
variable {s t : State}

/-! ### A step of the interrupt agent or of LINK -/

/-- What a step of an agent other than FG can do: it moves RB's read cursor, TB's write cursor and
TBM, and of the link registers all but SIOCNT's stored fields other than ERR. -/
structure OtherStep (s t : State) : Prop where
  frame    : t = { s with
    rcnt := t.rcnt, sio := { s.sio with err := t.sio.err }, send := t.send, recv := t.recv
    xferActive := t.xferActive, sendLatch := t.sendLatch, idValid := t.idValid
    irqPending := t.irqPending, seenComplete := t.seenComplete
    rb := { s.rb with r := t.rb.r }, tb := { s.tb with w := t.tb.w }, tbm := t.tbm, isr := t.isr }
  progress : s.KeepsProgress t
  rb       : RbOps s t
  tb       : TbOps s t
  /-- No word leaves TB. -/
  nonempty : s.BuffersOk → ¬ s.tb.isEmpty → ¬ t.tb.isEmpty
  handler  : t.isr ≠ .idle → s.isr ≠ .idle ∨ s.isrInstalled = true
  /-- Only a running handler writes RCNT and clears id_valid. -/
  quiet    : s.isr = .idle → t.rcnt = s.rcnt ∧
    (t.idValid = true ∨ t.idValid = s.idValid ∧ t.seenComplete = s.seenComplete)

/-- What a step of the interrupt agent can do, where ALT_RCNT is an alternate mode's value. -/
structure IsrStep (s t : State) : Prop extends OtherStep s t where
  sio          : t.sio = s.sio
  sendLatch    : t.sendLatch = s.sendLatch
  seenComplete : t.seenComplete = s.seenComplete

/-- A step of the interrupt agent that leaves the buffers and the mode alone. -/
theorem isrStep_of_registers (p : Bool) (v : Word) (q : IsrSeq)
    (hq : q ≠ .idle → s.isr ≠ .idle ∨ s.isrInstalled = true) :
    IsrStep s { s with irqPending := p, send := v, isr := q } :=
  ⟨⟨rfl, fun hx => .inr ⟨hx, rfl⟩, .refl, .refl, fun _ h => h, hq, fun _ => ⟨rfl, .inr ⟨rfl, rfl⟩⟩⟩,
    rfl, rfl, rfl⟩

/-- A step of a running handler that leaves the buffers and the mode alone. -/
theorem isrStep_of_running (hrun : s.isr ≠ .idle) (v : Word) (q : IsrSeq) :
    IsrStep s { s with send := v, isr := q } :=
  isrStep_of_registers s.irqPending v q fun _ => .inl hrun

theorem isrPush_isrStep {v : Four Word} (hrun : s.isr ≠ .idle) (h : isrPush v s = .next t) :
    IsrStep s t := by
  unfold isrPush at h
  split at h
  · cases h
  · cases h
    exact isrStep_of_running hrun s.send _
  · rename_i u hu
    cases h
    have hops := tbPushCore_ops hu
    obtain ⟨hp, hroom, m, -, rfl⟩ := tbPushCore_eq_some.mp hu
    refine ⟨⟨rfl, fun hx => .inr ⟨hx, rfl⟩, .refl, hops, fun hb _ hempty => ?_, fun _ => .inl hrun,
      fun hidle => absurd hidle hrun⟩, rfl, rfl, rfl⟩
    have hl := hb.tbLegal hp
    have hocc : s.tb.occ < s.tb.cap := lt_of_le_of_ne hl.2.2.2.2 hroom
    have := (Queue.isEmpty_iff (Queue.legal_pushed hl hocc)).mp hempty
    rw [Queue.occ_pushed hl hocc] at this
    exact absurd this (Nat.succ_ne_zero _)

theorem isrPop_isrStep (hrun : s.isr ≠ .idle) (h : isrPop s = .next t) : IsrStep s t := by
  unfold isrPop at h
  split at h
  · cases h
  · cases h
    exact isrStep_of_running hrun s.send _
  · rename_i w u hu
    cases h
    have hops := rbPopCore_ops hu
    obtain ⟨-, -, -, -, rfl⟩ := rbPopCore_eq_some.mp hu
    exact ⟨⟨rfl, fun hx => .inr ⟨hx, rfl⟩, hops, .refl, fun _ h => h, fun _ => .inl hrun,
      fun hidle => absurd hidle hrun⟩, rfl, rfl, rfl⟩

theorem isrSend_isrStep (hrun : s.isr ≠ .idle) (v : Option Word) : IsrStep s (isrSend v s) := by
  unfold isrSend
  cases v with
  | some w => exact isrStep_of_running hrun w .idle
  | none =>
    dsimp only
    split_ifs
    · exact isrStep_of_running hrun sentinel .unready
    · exact isrStep_of_running hrun sentinel .idle

theorem isrUnready_isrStep (halt : s.cfg.altRcnt[15] = true) (hrun : s.isr ≠ .idle) :
    IsrStep s (isrUnready s) := by
  have hp := (LinkWrite.writeRcnt s.cfg.altRcnt s).progress
  obtain ⟨x, r, hw⟩ := smUnreadyCore_eq halt
  rw [← smUnreadyCore, hw] at hp
  rw [isrUnready, hw]
  exact ⟨⟨rfl, hp, .refl, .refl, fun _ h => h, fun hn => absurd rfl hn,
    fun hidle => absurd hidle hrun⟩, rfl, rfl, rfl⟩

/-- What the interrupt agent's turn can do: its unready write, or a step that keeps the mode. -/
theorem isrTurn_cases (h : isrTurn s = .next t) :
    (s.isr = .unready ∧ t = isrUnready s) ∨ IsrStep s t := by
  have hstay : IsrStep s s := isrStep_of_registers s.irqPending s.send s.isr .inl
  unfold isrTurn at h
  split_ifs at h with hidle hpending hentered
  · cases h
    refine .inr (isrStep_of_registers false s.send _ fun hq => ?_)
    by_contra hn
    simp_all
  · cases h
    exact .inr hstay
  · cases h
    exact .inr (isrStep_of_running hidle s.send _)
  · revert h
    unfold isrAdvance
    cases hisr : s.isr with
    | idle => exact absurd hisr hidle
    | entered => exact absurd hisr hentered
    | recv1 t0 => rintro ⟨⟩; exact .inr (isrStep_of_running hidle s.send _)
    | recv2 t0 t1 => rintro ⟨⟩; exact .inr (isrStep_of_running hidle s.send _)
    | recv3 t0 t1 t2 => rintro ⟨⟩; exact .inr (isrStep_of_running hidle s.send _)
    | push v => exact fun h => .inr (isrPush_isrStep hidle h)
    | pop => exact fun h => .inr (isrPop_isrStep hidle h)
    | send v => rintro ⟨⟩; exact .inr (isrSend_isrStep hidle v)
    | unready => rintro ⟨⟩; exact .inl ⟨rfl, rfl⟩

theorem isrTurn_isrStep (halt : s.cfg.altRcnt[15] = true) (h : isrTurn s = .next t) :
    IsrStep s t := by
  rcases isrTurn_cases h with ⟨hisr, rfl⟩ | h
  · exact isrUnready_isrStep halt (by simp [hisr])
  · exact h

/-- LINK begins a transfer on a child in multiplayer mode, or nothing happens (20_memory.md R91). -/
theorem linkBegin_cases (s : State) : s.linkBegin = s ∨ s.linkBegin = s.beginTransfer := by
  unfold State.linkBegin
  split_ifs
  · exact .inr rfl
  · exact .inl rfl

/-- LINK completes the transfer in progress, or nothing happens (20_memory.md R92). -/
theorem linkComplete_cases (s : State) :
    s.linkComplete = s ∨ s.linkComplete = s.completeTransfer := by
  unfold State.linkComplete
  split_ifs
  · exact .inr rfl
  · exact .inl rfl

theorem otherStep_refl (s : State) : OtherStep s s :=
  ⟨rfl, fun hx => .inr ⟨hx, rfl⟩, .refl, .refl, fun _ h => h, .inl, fun _ => ⟨rfl, .inr ⟨rfl, rfl⟩⟩⟩

theorem linkBegin_otherStep (s : State) : OtherStep s s.linkBegin := by
  rcases linkBegin_cases s with h | h <;> rw [h]
  · exact otherStep_refl s
  · exact ⟨rfl, fun _ => .inl rfl, .refl, .refl, fun _ h => h, .inl,
      fun _ => ⟨rfl, .inr ⟨rfl, rfl⟩⟩⟩

theorem linkComplete_otherStep (s : State) : OtherStep s s.linkComplete := by
  rcases linkComplete_cases s with h | h <;> rw [h]
  · exact otherStep_refl s
  · exact ⟨rfl, nofun, .refl, .refl, fun _ h => h, .inl, fun _ => ⟨rfl, .inl rfl⟩⟩

/-! ### Their steps keep the session's invariant -/

theorem rcntCleared_of_inLoop {f : FgSeq} (h : f.inLoop = true) : f.rcntCleared = true := by
  unfold FgSeq.inLoop at h
  split at h <;> cases h <;> rfl

/-- Only sm_init_core and discovery rely on an RCNT write of theirs. -/
theorem phase_of_rcntCleared {f : FgSeq} (h : f.rcntCleared = true) :
    ∃ c : SmCaller, f.phase = c.phase := by
  unfold FgSeq.rcntCleared at h
  split at h
  · exact ⟨_, rfl⟩
  · exact ⟨_, rfl⟩
  · exact ⟨_, rfl⟩
  · rcases Bool.or_eq_true_iff.mp h with h | h
    · unfold FgSeq.inInit at h
      split at h <;> cases h <;> exact ⟨_, rfl⟩
    · unfold FgSeq.inLoop at h
      split at h <;> cases h <;> exact ⟨_, rfl⟩

/-- While sm_init_core or discovery runs, no handler is installed. -/
theorem not_installed_of_phase (hs : s.SessionOk) {c : SmCaller} (hc : s.fg.phase = c.phase) :
    s.isrInstalled = false := by
  have hfit := (phaseOk_iff s).mp hs.phase
  rw [hc] at hfit
  cases c with
  | command => exact hfit.2.2.2
  | new l => exact hfit.2.2.2

/-- The step of another agent keeps the session's invariant: the handler is there to move only where
no command relies on RCNT, id_valid or SEND. -/
theorem OtherStep.sessionOk (hstep : OtherStep s t) (hb : s.BuffersOk) (hs : s.SessionOk) :
    t.SessionOk := by
  obtain ⟨hframe, -, -, -, hne, hhandler, hquiet⟩ := hstep
  have hidle : s.fg.rcntCleared = true → s.isr = .idle := fun hr => by
    obtain ⟨c, hc⟩ := phase_of_rcntCleared hr
    by_contra hn
    exact absurd (hs.handler hn) (by simp [not_installed_of_phase hs hc])
  have hinst : t.isr ≠ .idle → s.isrInstalled = true := fun hn =>
    (hhandler hn).elim hs.handler id
  have hloop : s.fg.inLoop = true → t.seenComplete = true → t.idValid = true := fun hl hseen => by
    rcases (hquiet (hidle (rcntCleared_of_inLoop hl))).2 with hv | ⟨hv, hsc⟩
    · exact hv
    · exact hv.trans (hs.loopId hl (hsc ▸ hseen))
  have hserial : s.fg.rcntCleared = true → t.rcnt[15] = false := fun hr => by
    rw [(hquiet (hidle hr)).1]
    exact hs.serial hr
  have hpeeked : ∀ k, s.fg = .skipPop k → ¬ t.tb.isEmpty := fun k hk => hne hb (hs.peeked k hk)
  rw [hframe] at hinst hloop hserial hpeeked ⊢
  exact
    { phase := hs.phase
      inited := hs.inited
      active := hs.active
      newOk := hs.newOk
      readAllOk := hs.readAllOk
      peeked := hpeeked
      noRace := fun v hv =>
        congrArg (fun x : Siocnt => { x with err := t.sio.err }) (hs.noRace v hv)
      handler := hinst
      enabled := hs.enabled
      disabled := hs.disabled
      serial := hserial
      multiMode := hs.multiMode
      loopId := hloop
      found := hs.found
      sessionId := hs.sessionId
      role := hs.role }

/-- On a standalone port no handler is ever entered. -/
theorem OtherStep.standaloneOk (hstep : OtherStep s t) (hs : s.StandaloneOk) : t.StandaloneOk := by
  obtain ⟨hframe, -, -, -, -, hhandler, -⟩ := hstep
  have hisr : t.isr = .idle := by
    by_contra hn
    rcases hhandler hn with h | h
    · exact h hs.isr
    · simp [hs.installed] at h
  rw [hframe] at hisr ⊢
  exact ⟨hs.fg, hisr, hs.installed, hs.sc, hs.sm, hs.irq⟩

/-! ## Every step keeps the invariant -/

theorem State.KeepsProgress.inProgress (hp : s.KeepsProgress t)
    (h : s.xferActive = true → s.recv = ⟨sentinel, sentinel, sentinel, sentinel⟩) :
    t.xferActive = true → t.recv = ⟨sentinel, sentinel, sentinel, sentinel⟩ := fun hx => by
  rcases hp hx with hr | ⟨hsx, hr⟩
  · exact hr
  · exact hr.trans (h hsx)

theorem OtherStep.inv (hstep : OtherStep s t) (h : s.Inv) : t.Inv := by
  have hcfg : t.cfg = s.cfg := by rw [hstep.frame]
  exact
    { params := hcfg ▸ h.params
      buffers := h.buffers.of_ops hcfg hstep.rb hstep.tb
      session := fun hc => hstep.sessionOk h.buffers (h.session (hcfg ▸ hc))
      standalone := fun hc => hstep.standaloneOk (h.standalone (hcfg ▸ hc))
      inProgress := hstep.progress.inProgress h.inProgress }

theorem BufferStep.standaloneOk (hstep : BufferStep s t) (hs : s.StandaloneOk) :
    t.StandaloneOk := by
  rw [hstep.frame]
  exact ⟨rfl, hs.isr, hs.installed, hs.sc, hs.sm, hs.irq⟩

theorem portStep_standaloneOk (hc : s.cfg.config = .standalone) (hs : s.StandaloneOk)
    (ht : portStep s = .next t) : t.StandaloneOk := by
  have htake (rest : List Word) : (s.take rest).StandaloneOk :=
    { hs with }
  rcases portStep_eq_next ht with rfl | ⟨rest, rfl⟩ | ⟨i, rest, -, hi, hexec⟩
  · exact hs
  · exact (bufferStep_respond (s.take rest) _ _ _).standaloneOk (htake rest)
  · exact (exec_bufferStep (hi.trans hc) hexec).standaloneOk (htake rest)

/-- On a standalone port no command is ever in progress. -/
theorem fgTurn_standaloneOk (hc : s.cfg.config = .standalone) (hs : s.StandaloneOk)
    (ht : fgTurn s = .next t) : t.StandaloneOk := by
  rcases fgTurn_eq_next ht with rfl | ⟨-, ⟨-, ht⟩ | ht⟩
  · exact hs
  · exact portStep_standaloneOk hc hs ht
  · rw [fgAdvance, hs.fg] at ht
    cases ht
    exact hs

theorem fgTurn_inv (h : s.Inv) (ht : fgTurn s = .next t) : t.Inv := by
  have hstep := fgTurn_fgStep ht
  have hcfg := hstep.cfg
  exact
    { params := hcfg ▸ h.params
      buffers := h.buffers.of_ops hcfg hstep.rb hstep.tb
      session := fun hc =>
        have hc : s.cfg.config = .session := hcfg ▸ hc
        fgTurn_sessionOk h.params.2.2.1 hc (h.session hc) ht
      standalone := fun hc =>
        have hc : s.cfg.config = .standalone := hcfg ▸ hc
        fgTurn_standaloneOk hc (h.standalone hc) ht
      inProgress := hstep.progress.inProgress h.inProgress }

/-- Whose step it is (00_scope.md R4). -/
theorem agentStep_eq_next (h : agentStep s = .next t) :
    (s.env.turn = .fg ∧ fgTurn s = .next t) ∨ (s.env.turn = .isr ∧ isrTurn s = .next t) ∨
    (s.env.turn = .linkBegin ∧ t = s.linkBegin) ∨
    (s.env.turn = .linkComplete ∧ t = s.linkComplete) := by
  unfold agentStep at h
  split at h
  · exact .inl ⟨‹_›, h⟩
  · exact .inr (.inl ⟨‹_›, h⟩)
  · cases h
    exact .inr (.inr (.inl ⟨‹_›, rfl⟩))
  · cases h
    exact .inr (.inr (.inr ⟨‹_›, rfl⟩))

theorem agentStep_inv (h : s.Inv) (ht : agentStep s = .next t) : t.Inv := by
  rcases agentStep_eq_next ht with ⟨-, ht⟩ | ⟨-, ht⟩ | ⟨-, rfl⟩ | ⟨-, rfl⟩
  · exact fgTurn_inv h ht
  · exact (isrTurn_isrStep h.params.2.2.1 ht).toOtherStep.inv h
  · exact (linkBegin_otherStep s).inv h
  · exact (linkComplete_otherStep s).inv h

/-- The invariant does not speak of the draws to come. -/
theorem inv_redraw (h : s.Inv) : s.redraw.Inv where
  params := h.params
  buffers := (buffersOk_iff _).mpr ((buffersOk_iff s).mp h.buffers)
  session hc := by
    obtain ⟨hf, hfit⟩ := (sessionOk_iff s).mp (h.session hc)
    exact (sessionOk_iff _).mpr
      ⟨{ hf with }, hfit⟩
  standalone hc :=
    have hs := h.standalone hc
    { hs with }
  inProgress := h.inProgress

/-- A step is the agent's step, and the draws for the next one. -/
theorem step_eq_next (h : step s = .next t) : ∃ u, agentStep s = .next u ∧ t = u.redraw := by
  unfold step redrawn at h
  split at h <;> cases h
  exact ⟨_, ‹_›, rfl⟩

end

/-- Settles O12: the agent's step keeps the invariant, and the draws are no part of it. -/
theorem invariantKept : Obligations.InvariantKept := by
  intro s t hinv hstep
  obtain ⟨u, hu, rfl⟩ := step_eq_next hstep
  exact inv_redraw (agentStep_inv hinv hu)

/-! ## What each agent's steps leave alone -/

section
variable {s t : State}

/-- While FG owns the handle, no handler is installed. -/
theorem not_installed_of_ownsHandle (hs : s.SessionOk) (ho : s.ownsHandle) :
    s.isrInstalled = false := by
  have hfit := (phaseOk_iff s).mp hs.phase
  have hother : s.scState ≠ .iddisc ∧ s.scState ≠ .active := by
    rcases ho with h | h <;> simp [h]
  cases hp : s.fg.phase <;> rw [hp] at hfit
  case idle =>
    rcases hfit with ha | hh
    · exact absurd ha.1 hother.2
    · exact hh.2.2.2
  case handle => exact hfit.2.2.2
  case opening => exact absurd hfit.1 hother.1
  case installed => exact absurd hfit.1 hother.1
  case session => exact absurd hfit.1 hother.2

/-- FG writes SEND only where no handler is installed (20_memory.md R106). -/
theorem not_installed_of_writesSend (hs : s.SessionOk) (hw : s.WritesSend) :
    s.isrInstalled = false := by
  rcases hw with ⟨c, hfg⟩ | hck
  · exact not_installed_of_phase (c := c) hs (by rw [hfg]; rfl)
  · exact not_installed_of_ownsHandle hs (smCheck_eq_none hck).1

/-- In an ACTIVE session only SC.LEAVE's teardown moves the buffers. -/
theorem not_movesBuffers (hs : s.SessionOk) (ha : s.scState = .active)
    (hl : s.fg ≠ .leaveTeardown) : ¬ s.MovesBuffers := by
  rintro (⟨l, id, hfg⟩ | hfg)
  · have hfit := (phaseOk_iff s).mp hs.phase
    rw [hfg] at hfit
    exact absurd (ha.symm.trans hfit.1) (by decide)
  · exact hl hfg

/-- No step changes the parameters, and none but `redraw` the draws. -/
theorem agentStep_fixed (h : agentStep s = .next t) :
    t.cfg = s.cfg ∧ t.env = s.env ∧ t.tick = s.tick := by
  have hother (u : State) (ho : OtherStep s u) :
      u.cfg = s.cfg ∧ u.env = s.env ∧ u.tick = s.tick := by
    rw [ho.frame]
    exact ⟨rfl, rfl, rfl⟩
  rcases agentStep_eq_next h with ⟨-, h⟩ | ⟨-, h⟩ | ⟨-, rfl⟩ | ⟨-, rfl⟩
  · have hstep := fgTurn_fgStep h
    exact ⟨hstep.cfg, hstep.env, hstep.tick⟩
  · rcases isrTurn_cases h with ⟨-, rfl⟩ | h
    · rw [isrUnready, smUnreadyCore, (LinkWrite.writeRcnt s.cfg.altRcnt s).frame]
      exact ⟨rfl, rfl, rfl⟩
    · exact hother t h.toOtherStep
  · exact hother _ (linkBegin_otherStep s)
  · exact hother _ (linkComplete_otherStep s)

/-- What FG's step has done, by whose turn it was. -/
theorem fgStep_of_turn (h : agentStep s = .next t) (hturn : s.env.turn = .fg) : FgStep s t := by
  rw [agentStep, hturn] at h
  exact fgTurn_fgStep h

theorem isrStep_of_turn (h : agentStep s = .next t) (hturn : s.env.turn = .isr)
    (halt : s.cfg.altRcnt[15] = true) : IsrStep s t := by
  rw [agentStep, hturn] at h
  exact isrTurn_isrStep halt h

end

/-- Settles O58: FG's step, the interrupt agent's and LINK's, each by what it can do. -/
theorem agentsKeepTheirParts : Obligations.AgentsKeepTheirParts := by
  intro s t h
  obtain ⟨hcfg, henv, htick⟩ := agentStep_fixed h
  refine ⟨hcfg, henv, htick, fun hturn => ?_, fun hturn hinv hc => ?_, fun hturn halt => ?_,
    fun hturn => ?_⟩
  · have hstep := fgStep_of_turn h hturn
    exact ⟨hstep.isr, hstep.irqPending⟩
  · have hstep := fgStep_of_turn h hturn
    have hs := hinv.session hc
    refine ⟨fun ha hl => hstep.sides hc (not_movesBuffers hs ha hl), fun hinst => ?_⟩
    rcases hstep.send with hsend | hw
    · exact hsend
    · simp [not_installed_of_writesSend hs hw] at hinst
  · obtain ⟨⟨hframe, -⟩, hsio, hlatch, hseen⟩ := isrStep_of_turn h hturn halt
    refine ⟨hsio, hseen, hlatch, ?_⟩
    rw [hframe]
    exact ⟨rfl, rfl, rfl, rfl, rfl, rfl, rfl, rfl, rfl, rfl, rfl, rfl, rfl, rfl⟩
  · rcases hturn with hturn | hturn <;> rw [agentStep, hturn] at h <;> cases h
    · rcases linkBegin_cases s with h | h
      · rw [h]
      · rw [h]
        rfl
    · rcases linkComplete_cases s with h | h
      · rw [h]
      · rw [h]
        rfl

end Sys2Proof.Machine

/-! ## Start requests, transfers and mode changes (20_memory.md R88, R90 to R92)

What each operation of LINK and each register write does in the case a statement speaks of: one
equation per case, over the named states of the model. -/

namespace Sys2Proof

theorem Four.get_ofFn {α : Type} (f : PlayerId → α) (p : PlayerId) : (Four.ofFn f).get p = f p := by
  cases p <;> rfl

end Sys2Proof

namespace Sys2Proof.Machine

section
variable {s : State}

/-! ### A transfer's begin -/

theorem beginTransfer_eq (s : State) :
    s.beginTransfer = { s with xferActive := true, sendLatch := s.send, recv := fourSentinels } :=
  rfl

/-- A start request that begins a transfer (20_memory.md R90). -/
theorem requestStart_of_enabled (hm : s.multi) (hrole : s.cfg.roleHw = .parent)
    (hx : s.xferActive = false) (hgo : s.flagSd = true ∨ s.env.race = true) :
    s.requestStart = s.beginTransfer :=
  if_pos ⟨hm, hrole, hx, hgo⟩

/-- A start request without effect (20_memory.md R90). -/
theorem requestStart_of_disabled
    (h : ¬ (s.multi ∧ s.cfg.roleHw = .parent ∧ s.xferActive = false ∧
      (s.flagSd = true ∨ s.env.race = true))) :
    s.requestStart = s :=
  if_neg h

section
variable {v : Word} (hstore : s.sio.store v = s.sio)
include hstore

theorem settleMode_of_store_same : s.settleMode { s with sio := s.sio.store v } = s := by
  rw [hstore]
  exact settleMode_of_same s s Iff.rfl

theorem writeSiocnt_same_of_start_zero (h : v[7] = false) : s.writeSiocnt v = s := by
  rw [writeSiocnt_of_start_zero s h, settleMode_of_store_same hstore]

theorem writeSiocnt_same_of_start_one (h : v[7] = true) : s.writeSiocnt v = s.requestStart := by
  rw [State.writeSiocnt, settleMode_of_store_same hstore]
  exact if_pos h

end

theorem linkBegin_of_enabled (hrole : s.cfg.roleHw = .child) (hm : s.multi)
    (hx : s.xferActive = false) : s.linkBegin = s.beginTransfer :=
  if_pos ⟨hrole, hm, hx⟩

theorem agentStep_linkBegin (h : s.env.turn = .linkBegin) : agentStep s = .next s.linkBegin := by
  rw [agentStep, h]

/-! ### A transfer's completion -/

theorem linkComplete_of_active (h : s.xferActive = true) : s.linkComplete = s.completeTransfer :=
  if_pos h

theorem completionWord_own (s : State) : s.completionWord s.cfg.posHw = s.sendLatch :=
  if_pos rfl

theorem completionWord_present {q : PlayerId} (hq : q ≠ s.cfg.posHw)
    (hp : s.cfg.present.get q = true) : s.completionWord q = s.env.words.get q := by
  rw [State.completionWord, if_neg hq, if_pos hp]

theorem completionWord_missing {q : PlayerId} (hq : q ≠ s.cfg.posHw)
    (hp : s.cfg.present.get q = false) : s.completionWord q = sentinel := by
  rw [State.completionWord, if_neg hq, if_neg (by simp [hp])]

/-- A completion sets irq_pending where IRQ is 1 and leaves it otherwise (20_memory.md R92). -/
theorem completeTransfer_irqPending_eq_ite (s : State) :
    s.completeTransfer.irqPending = if s.sio.irq = true then true else s.irqPending := by
  cases hirq : s.sio.irq <;> simp [hirq]

/-! ### A mode change -/

/-- An entry into multiplayer mode with id_valid 0 draws ERR and does no more (20_memory.md R88). -/
theorem settleMode_enter_of_invalid (before : State) (ho : ¬ before.multi) (hm : s.multi)
    (hid : s.idValid = false) :
    before.settleMode s = { s with sio := { s.sio with err := s.env.err } } := by
  rw [settleMode_enter before s ho hm, State.enterMulti, ← hid]

/-- RCNT[15] clear enters multiplayer mode where MODE is 0b10 already (10_state.md R50). -/
theorem writeRcnt_zero_enter (ho : ¬ s.multi) (hmode : s.sio.mode = 2) (hid : s.idValid = false) :
    s.writeRcnt 0 = { s with rcnt := 0, sio := { s.sio with err := s.env.err } } := by
  rw [writeRcnt_serial s (by decide)]
  exact settleMode_enter_of_invalid s ho ⟨by simp, hmode⟩ hid

/-- MODE 0b10 enters multiplayer mode where RCNT[15] is clear already (10_state.md R50). -/
theorem writeSiocnt_enter {v : Word} (ho : ¬ s.multi) (hrcnt : s.rcnt[15] = false)
    (hid : s.idValid = false) (hmode : v.extractLsb' 12 2 = 2) (hstart : v[7] = false) :
    s.writeSiocnt v = { s with sio := { s.sio.store v with err := s.env.err } } := by
  rw [writeSiocnt_of_start_zero s hstart]
  exact settleMode_enter_of_invalid s ho ⟨hrcnt, hmode⟩ hid

/-- An RCNT write with bit 15 set leaves the unit in OTHER mode (10_state.md R50), with id_valid
clear; what becomes of a transfer in progress is `writeRcnt_alternate`. -/
theorem writeRcnt_alternate_rcnt {v : Word} (h : v[15] = true) :
    (s.writeRcnt v).rcnt = v ∧ (s.writeRcnt v).idValid = false := by
  rw [writeRcnt_alternate s h]
  split_ifs
  · exact ⟨rfl, rfl⟩
  · exact ⟨rfl, rfl⟩

theorem not_multi_of_rcnt (h : s.rcnt[15] = true) : ¬ s.multi := fun hm =>
  Bool.false_ne_true (hm.1.symm.trans h)

theorem localReady_of_other (h : ¬ s.multi) : s.localReady = false := decide_eq_false h

end

/-! ### The statements -/

/-- Settles O52: a write that stores nothing new is a start request or nothing, and the request is
enabled or not. -/
theorem transferBegin : Obligations.TransferBegin := by
  refine ⟨fun s v hstore => ⟨fun h0 => writeSiocnt_same_of_start_zero hstore h0,
    fun h1 hm hrole hx hgo => ?_, fun h1 _ _ _ hsd hrace => ?_, fun h1 hoff => ?_⟩,
    fun s hturn hrole hm hx => ?_⟩
  · rw [writeSiocnt_same_of_start_one hstore h1, requestStart_of_enabled hm hrole hx hgo,
      beginTransfer_eq]
  · rw [writeSiocnt_same_of_start_one hstore h1]
    exact requestStart_of_disabled fun ⟨_, _, _, hgo⟩ => by simp [hsd, hrace] at hgo
  · rw [writeSiocnt_same_of_start_one hstore h1]
    exact requestStart_of_disabled fun ⟨hm, hrole, hx, _⟩ => hoff ⟨hm, hrole, hx⟩
  · rw [agentStep_linkBegin hturn, linkBegin_of_enabled hrole hm hx, beginTransfer_eq]

/-- Settles O53: the step is `completeTransfer`, lane by lane and field by field. -/
theorem transferCompletion : Obligations.TransferCompletion := by
  intro s hturn hx
  refine ⟨s.completeTransfer, ?_, ?_, fun q hq hp => ?_, fun q hq hp => ?_, ?_⟩
  · rw [agentStep_linkComplete hturn, linkComplete_of_active hx]
  · rw [State.completeTransfer_recv, Four.get_ofFn, completionWord_own]
  · rw [State.completeTransfer_recv, Four.get_ofFn, completionWord_present hq hp]
  · rw [State.completeTransfer_recv, Four.get_ofFn, completionWord_missing hq hp]
  · rw [← completeTransfer_irqPending_eq_ite]
    rfl

/-- Settles O55: both entries, and the leave by ALT_RCNT in each case of LINK's draw. -/
theorem modeChange : Obligations.ModeChange := by
  intro s
  refine ⟨fun ho hmode hid => ?_, fun ho hrcnt hid v hmode hstart => ?_, fun hm halt => ?_⟩
  · rw [writeRcnt_zero_enter ho hmode hid]
    exact ⟨rfl, by simp, hmode⟩
  · have h15 : s.rcnt[15] = false := by simp [hrcnt]
    rw [writeSiocnt_enter ho h15 hid hmode hstart]
    exact ⟨rfl, h15, hmode⟩
  · obtain ⟨hrcnt, hid⟩ := writeRcnt_alternate_rcnt (s := s) halt
    have ho : ¬ (s.writeRcnt s.cfg.altRcnt).multi := not_multi_of_rcnt (by simp [hrcnt, halt])
    refine ⟨ho, localReady_of_other ho, hid, fun hkeep => ?_, fun hx ha => ?_⟩
    · rw [writeRcnt_alternate s halt, if_neg]
      rintro ⟨_, hx, ha⟩
      rcases hkeep with h | h
      · simp [h] at hx
      · simp [h] at ha
    · rw [writeRcnt_alternate s halt, if_pos ⟨hm, hx, ha⟩]

end Sys2Proof.Machine

/-! ## The link registers on a byte-addressed bus (20_memory.md R83, R84) -/

namespace Sys2Proof.Machine

/-- The register map and the offsets say the same (20_memory.md R84). -/
theorem LrReg.atOffset_eq_some_iff {off : Nat} {r : LrReg} :
    LrReg.atOffset off = some r ↔ off = r.offset := by
  constructor
  · intro h
    unfold LrReg.atOffset at h
    split_ifs at h <;> cases h <;> assumption
  · rintro rfl
    rcases r with p | _ | _ | _
    · cases p <;> rfl
    all_goals rfl

theorem LrReg.offset_even (r : LrReg) : r.offset % 2 = 0 := by
  rcases r with p | _ | _ | _
  · cases p <;> rfl
  all_goals rfl

theorem LrReg.offset_lt (r : LrReg) : r.offset < 2 ^ 32 := by
  rcases r with p | _ | _ | _
  · cases p <;> decide
  all_goals decide

section
variable {base addr : BitVec 32} {width : Nat} {r : LrReg}

theorem lrSelect_of_width (h : width ≠ 16) : lrSelect base addr width = .error .lrWidth :=
  if_pos h

theorem lrSelect_of_odd (h : (addr - base).toNat % 2 = 1) :
    lrSelect base addr 16 = .error .lrMisaligned := by
  unfold lrSelect
  dsimp only
  rw [if_neg (by decide), if_pos (by omega)]

/-- A bus access reaches a register exactly where it is 16 bits wide and at the register's offset. -/
theorem lrSelect_eq_ok_iff :
    lrSelect base addr width = .ok r ↔ width = 16 ∧ (addr - base).toNat = r.offset := by
  rw [← LrReg.atOffset_eq_some_iff]
  constructor
  · intro h
    unfold lrSelect at h
    dsimp only at h
    split_ifs at h with hw hodd
    split at h
    case h_1 r' hr => cases h; exact ⟨not_not.mp hw, hr⟩
    case h_2 => cases h
  · rintro ⟨rfl, hr⟩
    have heven := r.offset_even
    rw [← LrReg.atOffset_eq_some_iff.mp hr] at heven
    unfold lrSelect
    dsimp only
    rw [if_neg (by decide), if_neg (by omega), hr]

theorem lrSelect_at_offset (base : BitVec 32) (r : LrReg) :
    lrSelect base (base + BitVec.ofNat 32 r.offset) 16 = .ok r := by
  rw [lrSelect_eq_ok_iff, add_sub_cancel_left, BitVec.toNat_ofNat, Nat.mod_eq_of_lt r.offset_lt]
  exact ⟨rfl, rfl⟩

end

section
variable (s : State) {addr : BitVec 32} {width : Nat}

theorem busRead_of_refused {e : Refusal} (h : lrSelect s.cfg.lrBase addr width = .error e) :
    s.busRead addr width = .error e := by
  rw [State.busRead, h]

/-- A bus read that answers reached a register other than SEND (10_state.md R37; log 22). -/
theorem busRead_eq_ok {v : Word} (h : s.busRead addr width = .ok v) :
    ∃ r, lrSelect s.cfg.lrBase addr width = .ok r ∧ r ≠ .send := by
  unfold State.busRead at h
  split at h
  case h_1 => cases h
  case h_2 hr => exact ⟨_, hr, nofun⟩
  case h_3 hr => exact ⟨_, hr, nofun⟩
  case h_4 => cases h
  case h_5 hr => exact ⟨_, hr, nofun⟩

/-- A bus write that is carried out reached SIOCNT, SEND or RCNT (10_state.md R37; log 22). -/
theorem busWrite_eq_ok {v : Word} {t : State} (h : s.busWrite addr width v = .ok t) :
    ∃ r, lrSelect s.cfg.lrBase addr width = .ok r ∧ ∀ p, r ≠ .recv p := by
  unfold State.busWrite at h
  split at h
  case h_1 => cases h
  case h_2 => cases h
  case h_3 hr => exact ⟨_, hr, nofun⟩
  case h_4 hr => exact ⟨_, hr, nofun⟩
  case h_5 hr => exact ⟨_, hr, nofun⟩

theorem LrReg.offset_mem_of_ne_send {r : LrReg} (h : r ≠ .send) :
    r.offset ∈ [0x120, 0x122, 0x124, 0x126, 0x128, 0x134] := by
  rcases r with p | _ | _ | _
  · cases p <;> decide
  · decide
  · exact absurd rfl h
  · decide

theorem LrReg.offset_mem_of_ne_recv {r : LrReg} (h : ∀ p, r ≠ .recv p) :
    r.offset ∈ [0x128, 0x12A, 0x134] := by
  rcases r with p | _ | _ | _
  · exact absurd rfl (h p)
  all_goals decide

theorem busRead_recv (p : PlayerId) :
    s.busRead (s.cfg.lrBase + BitVec.ofNat 32 (LrReg.recv p).offset) 16 = .ok (s.recv.get p) := by
  rw [State.busRead, lrSelect_at_offset]

theorem busRead_siocnt :
    s.busRead (s.cfg.lrBase + BitVec.ofNat 32 LrReg.siocnt.offset) 16 = .ok s.siocntRead := by
  rw [State.busRead, lrSelect_at_offset]

theorem busRead_rcnt :
    s.busRead (s.cfg.lrBase + BitVec.ofNat 32 LrReg.rcnt.offset) 16 = .ok s.rcnt := by
  rw [State.busRead, lrSelect_at_offset]

theorem busWrite_send (v : Word) :
    s.busWrite (s.cfg.lrBase + BitVec.ofNat 32 LrReg.send.offset) 16 v = .ok (s.writeSend v) := by
  rw [State.busWrite, lrSelect_at_offset]

theorem busWrite_siocnt (v : Word) :
    s.busWrite (s.cfg.lrBase + BitVec.ofNat 32 LrReg.siocnt.offset) 16 v =
      .ok (s.writeSiocnt v) := by
  rw [State.busWrite, lrSelect_at_offset]

theorem busWrite_rcnt (v : Word) :
    s.busWrite (s.cfg.lrBase + BitVec.ofNat 32 LrReg.rcnt.offset) 16 v = .ok (s.writeRcnt v) := by
  rw [State.busWrite, lrSelect_at_offset]

end

/-- Settles O59: an access reaches the register at its offset or is refused, and each register
answers as the bus view says. -/
theorem busReachesSevenRegisters : Obligations.BusReachesSevenRegisters := by
  intro s addr width
  refine ⟨fun ⟨v, h⟩ => ?_, fun v t h => ?_, fun h => busRead_of_refused s (lrSelect_of_width h),
    fun hw hodd => ?_, busRead_recv s .p0, busRead_recv s .p1, busRead_recv s .p2,
    busRead_recv s .p3, busRead_siocnt s, busRead_rcnt s,
    fun v => ⟨busWrite_send s v, busWrite_siocnt s v, busWrite_rcnt s v⟩⟩
  · obtain ⟨r, hsel, hr⟩ := busRead_eq_ok s h
    obtain ⟨hw, hoff⟩ := lrSelect_eq_ok_iff.mp hsel
    exact ⟨hw, hoff ▸ LrReg.offset_mem_of_ne_send hr⟩
  · obtain ⟨r, hsel, hr⟩ := busWrite_eq_ok s h
    obtain ⟨hw, hoff⟩ := lrSelect_eq_ok_iff.mp hsel
    exact ⟨hw, hoff ▸ LrReg.offset_mem_of_ne_recv hr⟩
  · subst hw
    exact busRead_of_refused s (lrSelect_of_odd hodd)

end Sys2Proof.Machine

/-! ## Commands and their halfwords (30_encoding.md R110 to R122)

A header falls apart into its four fields and is made of them again; a row's checks on the fields are
what the operands of a command of that row meet. On a stream that begins with a header and its
payload the decoder therefore reads off the command whose encoding stands there, and no other. -/

namespace Sys2Proof

/-! ### The header's halves and fields -/

theorem joinHeader_halves (h : BitVec 32) :
    joinHeader (h.extractLsb' 0 16) (h.extractLsb' 16 16) = h :=
  (BitVec.extractLsb'_append_extractLsb'_eq_extractLsb' rfl).trans BitVec.extractLsb'_eq_self

theorem headerHalves_joinHeader (lo hi : Word) : headerHalves (joinHeader lo hi) = [lo, hi] := by
  rw [headerHalves, joinHeader, BitVec.extractLsb'_append_eq_right, BitVec.extractLsb'_append_eq_left]

/-- A header whose RSV is 0 is made of its OPC, A2 and IMM16 (30_encoding.md R111). -/
theorem mkHeader_fields {h : BitVec 32} (hrsv : headerRsv h = 0) :
    mkHeader (headerOpc h) (headerA2 h) (headerImm h) = h := by
  have hopcRsv : h.extractLsb' 24 8 ++ h.extractLsb' 18 6 = h.extractLsb' 18 14 :=
    BitVec.extractLsb'_append_extractLsb'_eq_extractLsb' rfl
  have hhigh : h.extractLsb' 18 14 ++ h.extractLsb' 16 2 = h.extractLsb' 16 16 :=
    BitVec.extractLsb'_append_extractLsb'_eq_extractLsb' rfl
  rw [mkHeader, ← hrsv, headerOpc, headerRsv, headerA2, headerImm, hopcRsv, hhigh]
  exact joinHeader_halves h

/-! ### The opcode map -/

theorem Op.ofCode_code (o : Op) : Op.ofCode o.code = some o := by
  cases o <;> rfl

theorem Op.code_of_ofCode {c : BitVec 8} {o : Op} (h : Op.ofCode c = some o) : o.code = c :=
  eq_of_beq (List.find?_some (p := fun o : Op => o.code == c) h)

theorem Op.ofCode_eq_none_iff {c : BitVec 8} : Op.ofCode c = none ↔ ∀ o ∈ Op.all, o.code ≠ c := by
  simp only [Op.ofCode, List.find?_eq_none, beq_iff_eq, ne_eq]

/-! ### The checks of a row on its header -/

/-- A header breaks one of the field checks of a row that exists (30_encoding.md R118). -/
def HeaderBroken (o : Op) (h : BitVec 32) : Prop :=
  headerRsv h ≠ 0 ∨
  ((o.fmt = .h ∨ o.fmt = .i ∨ o.fmt = .n ∨ o.fmt = .q) ∧ headerA2 h ≠ 0) ∨
  ((o.fmt = .h ∨ o.fmt = .a ∨ o.fmt = .q) ∧ headerImm h ≠ 0) ∨
  (o = .scBlock ∧ (headerA2 h)[1] = true)

theorem headerFault_eq_none_iff {o : Op} {h : BitVec 32} :
    headerFault o h = none ↔ ¬ HeaderBroken o h := by
  unfold headerFault HeaderBroken
  split_ifs with hrsv ha2 himm hflag
  · exact iff_of_false nofun (not_not.mpr (.inl hrsv))
  · exact iff_of_false nofun (not_not.mpr (.inr (.inl ha2)))
  · exact iff_of_false nofun (not_not.mpr (.inr (.inr (.inl himm))))
  · exact iff_of_false nofun (not_not.mpr (.inr (.inr (.inr hflag))))
  · exact iff_of_true rfl (not_or.mpr ⟨hrsv, not_or.mpr ⟨ha2, not_or.mpr ⟨himm, hflag⟩⟩⟩)

/-- Fields and a payload that a command of the row can have: 0 where the format has no such operand,
a flag in A2[0] alone, and the payload as long as the header says (30_encoding.md R112, R113, R116). -/
structure OperandsFit (o : Op) (a2 : BitVec 2) (imm : Word) (payload : List Word) : Prop where
  a2_zero  : o.fmt = .h ∨ o.fmt = .i ∨ o.fmt = .n ∨ o.fmt = .q → a2 = 0
  imm_zero : o.fmt = .h ∨ o.fmt = .a ∨ o.fmt = .q → imm = 0
  flag     : o = .scBlock → a2[1] = false
  length   : payload.length = o.fmt.payloadLen imm

theorem not_headerBroken_iff {o : Op} {h : BitVec 32} {payload : List Word}
    (hlen : payload.length = o.fmt.payloadLen (headerImm h)) :
    ¬ HeaderBroken o h ↔
      headerRsv h = 0 ∧ OperandsFit o (headerA2 h) (headerImm h) payload := by
  constructor
  · intro hok
    obtain ⟨hrsv, ha2, himm, hflag⟩ : _ ∧ _ ∧ _ ∧ _ := by
      simpa only [HeaderBroken, not_or, not_and, not_not, Bool.not_eq_true] using hok
    exact ⟨hrsv, ha2, himm, hflag, hlen⟩
  · rintro ⟨hrsv, hfit⟩ (hb | ⟨hf, hb⟩ | ⟨hf, hb⟩ | ⟨hf, hb⟩)
    · exact hb hrsv
    · exact hb (hfit.a2_zero hf)
    · exact hb (hfit.imm_zero hf)
    · rw [hfit.flag hf] at hb
      cases hb

/-! ### The operands of a command meet the checks of its row -/

open Laws.HeaderFields in
theorem headerFields : ∀ i : Instr, Statement i
  | .smInit rate => smInit rate
  | .smStart => smStart
  | .smReady => smReady
  | .smUnready => smUnready
  | .smStatus => smStatus
  | .smId => smId
  | .smSend word => smSend word
  | .smRecv slot => smRecv slot
  | .smDiscover => smDiscover
  | .smRole => smRole
  | .rbAlloc cap => rbAlloc cap
  | .rbFree => rbFree
  | .rbPush word => rbPush word
  | .rbPop => rbPop
  | .rbReadBulk count => rbReadBulk count
  | .rbWriteBulk words => rbWriteBulk words
  | .rbLen => rbLen
  | .tbAlloc cap => tbAlloc cap
  | .tbFree => tbFree
  | .tbPush tuple => tbPush tuple
  | .tbPop => tbPop
  | .tbPeek => tbPeek
  | .tbReadBulk counts => tbReadBulk counts
  | .tbLen => tbLen
  | .scNew rate cap => scNew rate cap
  | .scQueueSend words => scQueueSend words
  | .scTick => scTick
  | .scReadBulk counts => scReadBulk counts
  | .scReadAll counts => scReadAll counts
  | .scSkipEmpty => scSkipEmpty
  | .scId => scId
  | .scBlock flag => scBlock flag
  | .scLeave => scLeave
  | .isrXferDone => isrXferDone

/-- A payload that fits is as long as the IMM16 made of its length says (30_encoding.md R112). -/
theorem toNat_ofNat_length {ws : List Word} (h : payloadFits ws) :
    (BitVec.ofNat 16 ws.length).toNat = ws.length := by
  rw [BitVec.toNat_ofNat, Nat.mod_eq_of_lt h]

theorem Instr.payload_length {i : Instr} (hwf : i.wf) :
    i.payload.length = i.op.fmt.payloadLen i.imm := by
  cases i with
  | rbWriteBulk ws => exact (toNat_ofNat_length hwf).symm
  | scQueueSend ws => exact (toNat_ofNat_length hwf).symm
  | _ => rfl

theorem Instr.a2_flag {i : Instr} (h : i.op = .scBlock) : i.a2[1] = false := by
  cases i with
  | scBlock flag => cases flag <;> rfl
  | _ => cases h

theorem Instr.operandsFit {i : Instr} (hwf : i.wf) : OperandsFit i.op i.a2 i.imm i.payload := by
  obtain ⟨-, -, -, -, ha2, himm⟩ := headerFields i
  exact ⟨ha2, himm, Instr.a2_flag, Instr.payload_length hwf⟩

/-- The row and the fields of a command determine it (30_encoding.md R113, R116). -/
theorem buildInstr_of_fields (i : Instr) : buildInstr i.op i.a2 i.imm i.payload = i := by
  cases i with
  | smRecv slot => exact congrArg Instr.smRecv slot.ofBits_toBits
  | scBlock flag => cases flag <;> rfl
  | _ => rfl

/-! ### The command built from a row and fitting operands has those operands -/

theorem PlayerId.toBits_ofBits (b : BitVec 2) : (PlayerId.ofBits b).toBits = b := by
  revert b
  decide

theorem flagField_getElem_zero {b : BitVec 2} (h : b[1] = false) : (if b[0] then 1 else 0) = b := by
  revert b
  decide

theorem toList_fourOfList {ws : List Word} (h : ws.length = 4) :
    [(fourOfList ws).l0, (fourOfList ws).l1, (fourOfList ws).l2, (fourOfList ws).l3] = ws := by
  obtain ⟨a, b, c, d, rfl⟩ := List.length_eq_four.mp h
  rfl

section
variable {o : Op} {a2 : BitVec 2} {imm : Word} {payload : List Word}

theorem buildInstr_op (o : Op) (a2 : BitVec 2) (imm : Word) (payload : List Word) :
    (buildInstr o a2 imm payload).op = o := by
  cases o <;> rfl

theorem buildInstr_wf (hfit : OperandsFit o a2 imm payload) : (buildInstr o a2 imm payload).wf := by
  cases o with
  | rbWriteBulk | scQueueSend => exact hfit.length.trans_lt imm.isLt
  | _ => trivial

theorem buildInstr_a2 (hfit : OperandsFit o a2 imm payload) :
    (buildInstr o a2 imm payload).a2 = a2 := by
  cases o with
  | smInit | scNew => rfl
  | smRecv => exact PlayerId.toBits_ofBits a2
  | scBlock => exact flagField_getElem_zero (hfit.flag rfl)
  | _ => exact (hfit.a2_zero (by decide)).symm

theorem buildInstr_imm (hfit : OperandsFit o a2 imm payload) :
    (buildInstr o a2 imm payload).imm = imm := by
  cases o with
  | smSend | rbAlloc | rbPush | rbReadBulk | tbAlloc | scNew => rfl
  | rbWriteBulk | scQueueSend =>
    exact BitVec.eq_of_toNat_eq ((toNat_ofNat_length (buildInstr_wf hfit)).trans hfit.length)
  | _ => exact (hfit.imm_zero (by decide)).symm

theorem buildInstr_payload (hfit : OperandsFit o a2 imm payload) :
    (buildInstr o a2 imm payload).payload = payload := by
  cases o with
  | rbWriteBulk | scQueueSend => rfl
  | tbPush | tbReadBulk | scReadBulk | scReadAll => exact toList_fourOfList hfit.length
  | _ => exact (List.eq_nil_of_length_eq_zero hfit.length).symm

end

section
variable {o : Op} {h : BitVec 32} {payload : List Word}

/-- The encoding of the command built from a header and its payload is that header and payload. -/
theorem encode_buildInstr (ho : Op.ofCode (headerOpc h) = some o) (hrsv : headerRsv h = 0)
    (hfit : OperandsFit o (headerA2 h) (headerImm h) payload) :
    encode (buildInstr o (headerA2 h) (headerImm h) payload) = headerHalves h ++ payload := by
  rw [encode, Instr.header, buildInstr_op, buildInstr_a2 hfit, buildInstr_imm hfit,
    buildInstr_payload hfit, Op.code_of_ofCode ho, mkHeader_fields hrsv]

/-! ### The decoder on a header and its payload -/

theorem decode_of_unknown (ho : Op.ofCode (headerOpc h) = none) (rest : List Word) :
    decode (headerHalves h ++ rest) = .illegal .unknownOpcode rest := by
  simp [headerHalves, decode, joinHeader_halves, payloadLen, ho]

/-- The decoder on the header of a row that exists, with its payload: the row's checks decide, and
the payload is consumed whatever they say (30_encoding.md R118). -/
theorem decode_of_known (ho : Op.ofCode (headerOpc h) = some o)
    (hlen : payload.length = o.fmt.payloadLen (headerImm h)) (rest : List Word) :
    decode (headerHalves h ++ payload ++ rest) =
      (headerFault o h).elim (.instr (buildInstr o (headerA2 h) (headerImm h) payload) rest)
        (Decoded.illegal · rest) := by
  have hp : payloadLen h = payload.length := by rw [payloadLen, ho, hlen]
  simp only [headerHalves, decode, List.cons_append, List.nil_append, joinHeader_halves, hp, ho,
    List.length_append, List.take_left, List.drop_left]
  rw [if_neg (by omega)]
  cases headerFault o h <;> rfl

/-- A stream that decodes begins with the header of a row that exists, which passes the row's
checks, and its payload. -/
theorem decode_eq_instr {ws rest : List Word} {i : Instr} (hd : decode ws = .instr i rest) :
    ∃ o h payload, ws = headerHalves h ++ payload ++ rest ∧ Op.ofCode (headerOpc h) = some o ∧
      payload.length = o.fmt.payloadLen (headerImm h) ∧ headerFault o h = none ∧
      i = buildInstr o (headerA2 h) (headerImm h) payload := by
  match ws with
  | [] | [_] => cases hd
  | lo :: hi :: tail =>
    simp only [decode] at hd
    split_ifs at hd with hshort
    split at hd
    · cases hd
    · rename_i o ho
      split at hd
      · cases hd
      · rename_i hok
        cases hd
        refine ⟨o, joinHeader lo hi, tail.take (payloadLen (joinHeader lo hi)), ?_, ho, ?_, hok, rfl⟩
        · rw [headerHalves_joinHeader, List.append_assoc, List.take_append_drop]
          rfl
        · rw [List.length_take_of_le (not_lt.mp hshort), payloadLen, ho]

end

/-- Settles O1: the header of an encoding is of the command's row and passes its checks, and the row
and the fields determine the command. -/
theorem decodeOfEncode : Obligations.DecodeOfEncode := by
  intro i rest hwf
  obtain ⟨hopc, hrsv, ha2, himm, -, -⟩ := headerFields i
  have ho : Op.ofCode (headerOpc i.header) = some i.op := by rw [hopc, Op.ofCode_code]
  have hfit : OperandsFit i.op (headerA2 i.header) (headerImm i.header) i.payload := by
    rw [ha2, himm]
    exact Instr.operandsFit hwf
  have hok : headerFault i.op i.header = none :=
    headerFault_eq_none_iff.mpr ((not_headerBroken_iff hfit.length).mpr ⟨hrsv, hfit⟩)
  rw [encode, decode_of_known ho hfit.length, hok, ha2, himm, buildInstr_of_fields]
  rfl

/-- Settles O2: a stream that decodes begins with a header that passes its row's checks, and so with
the encoding of the command built from it. -/
theorem encodeOfDecode : Obligations.EncodeOfDecode := by
  intro ws rest i hd
  obtain ⟨o, h, payload, rfl, ho, hlen, hok, rfl⟩ := decode_eq_instr hd
  obtain ⟨hrsv, hfit⟩ := (not_headerBroken_iff hlen).mp (headerFault_eq_none_iff.mp hok)
  exact ⟨buildInstr_wf hfit, by rw [encode_buildInstr ho hrsv hfit]⟩

/-! ### The port's own checks -/

section
variable {config : PortConfig} {stream rest : List Word} {i : Instr}

theorem portDecode_of_illegal {why : Illegal} (hd : decode stream = .illegal why rest) :
    portDecode config stream = .illegal why rest := by
  rw [portDecode, hd]

theorem portDecode_of_instr (hd : decode stream = .instr i rest) (hx : i.op ≠ .isrXferDone)
    (hc : i.op.config = config) : portDecode config stream = .instr i rest := by
  rw [portDecode, hd]
  exact (if_neg hx).trans (if_neg (not_not.mpr hc))

/-- A decoded command that FG may not send to this port is refused (30_encoding.md R118). -/
theorem portDecode_of_barred (hd : decode stream = .instr i rest)
    (hb : i.op = .isrXferDone ∨ i.op.config ≠ config) :
    ∃ why, portDecode config stream = .illegal why rest := by
  rw [portDecode, hd]
  by_cases hx : i.op = .isrXferDone
  · exact ⟨_, if_pos hx⟩
  · exact ⟨_, (if_neg hx).trans (if_pos (hb.resolve_left hx))⟩

end

/-- The port on the header of a row that exists, with its payload: one broken check refuses it, and
else it is the command of that row with those operands (30_encoding.md R118). -/
theorem portDecode_of_known {o : Op} {h : BitVec 32} {payload : List Word}
    (ho : Op.ofCode (headerOpc h) = some o)
    (hlen : payload.length = o.fmt.payloadLen (headerImm h)) (config : PortConfig)
    (rest : List Word) :
    (HeaderBroken o h ∨ o = .isrXferDone ∨ o.config ≠ config →
      ∃ why, portDecode config (headerHalves h ++ payload ++ rest) = .illegal why rest) ∧
    (¬ (HeaderBroken o h ∨ o = .isrXferDone ∨ o.config ≠ config) →
      ∃ i, portDecode config (headerHalves h ++ payload ++ rest) = .instr i rest ∧
        i.op = o ∧ i.a2 = headerA2 h ∧ i.imm = headerImm h ∧ i.payload = payload) := by
  have hd := decode_of_known ho hlen rest
  cases hf : headerFault o h with
  | some why =>
    have hbroken : HeaderBroken o h := by
      by_contra hok
      rw [headerFault_eq_none_iff.mpr hok] at hf
      cases hf
    rw [hf] at hd
    exact ⟨fun _ => ⟨why, portDecode_of_illegal hd⟩, fun hok => absurd (.inl hbroken) hok⟩
  | none =>
    have hok := headerFault_eq_none_iff.mp hf
    obtain ⟨-, hfit⟩ := (not_headerBroken_iff hlen).mp hok
    have hop := buildInstr_op o (headerA2 h) (headerImm h) payload
    rw [hf] at hd
    constructor
    · intro hb
      exact portDecode_of_barred hd (by rw [hop]; exact hb.resolve_left hok)
    · intro hb
      obtain ⟨-, hx, hc⟩ := not_or.mp hb |>.imp_right not_or.mp
      exact ⟨_, portDecode_of_instr hd (by rwa [hop]) (by rw [hop]; exact not_not.mp hc), hop,
        buildInstr_a2 hfit, buildInstr_imm hfit, buildInstr_payload hfit⟩

end Sys2Proof

namespace Sys2Proof.Machine

section
variable {s : State}

theorem agentStep_of_awaitsCommand (hs : s.awaitsCommand) : agentStep s = portStep s := by
  obtain ⟨hturn, hisr, hfg⟩ := hs
  simp [agentStep, hturn, fgTurn, State.isrActive, hisr, hfg]

/-- A refused header is taken off the port and answered ILLEGAL_COMMAND (30_encoding.md R118). -/
theorem agentStep_of_illegal (hs : s.awaitsCommand) {why : Illegal} {rest : List Word}
    (hd : portDecode s.cfg.config s.port = .illegal why rest) :
    agentStep s = .next ((s.take rest).respond .illegalCommand 0 []) := by
  rw [agentStep_of_awaitsCommand hs, portStep, hd]
  rfl

theorem agentStep_of_instr (hs : s.awaitsCommand) {i : Instr} {rest : List Word}
    (hd : portDecode s.cfg.config s.port = .instr i rest) :
    agentStep s = exec i (s.take rest) := by
  rw [agentStep_of_awaitsCommand hs, portStep, hd]

theorem agentStep_of_entered (hturn : s.env.turn = .isr) (hisr : s.isr = .entered) :
    agentStep s = exec .isrXferDone s := by
  simp [agentStep, hturn, isrTurn, hisr]

end

/-- Settles O3: the unknown opcode, a known row on its checks, and the step that refuses. -/
theorem headerChecks : Obligations.HeaderChecks := by
  refine ⟨fun config h payload rest => ⟨fun ho => ?_, fun o ho hlen => ?_⟩,
    fun s why rest hs hd => agentStep_of_illegal hs hd⟩
  · exact ⟨_, portDecode_of_illegal (decode_of_unknown ho rest)⟩
  · simpa only [HeaderBroken, or_assoc] using portDecode_of_known ho hlen config rest

/-- The opcodes between and outside the ranges of the opcode map (30_encoding.md R119). -/
theorem Op.ofCode_eq_none_iff_reserved (c : BitVec 8) :
    Op.ofCode c = none ↔
      c = 0x00 ∨ (0x0B ≤ c ∧ c ≤ 0x0F) ∨ (0x17 ≤ c ∧ c ≤ 0x1F) ∨ (0x27 ≤ c ∧ c ≤ 0x2F) ∨
      (0x39 ≤ c ∧ c ≤ 0x3F) ∨ (0x41 ≤ c ∧ c ≤ 0xEF) ∨ 0xF0 ≤ c := by
  rw [Op.ofCode_eq_none_iff]
  simp only [Op.all, List.cons_append, List.nil_append, List.forall_mem_cons, Op.code,
    List.not_mem_nil, false_implies, implies_true, and_true, ne_eq, ← BitVec.toNat_inj,
    BitVec.le_def, BitVec.reduceToNat]
  omega

/-- Settles O4: the codes no row has, and the port on one of them. -/
theorem reservedOpcodesRefused : Obligations.ReservedOpcodesRefused := by
  refine ⟨Op.ofCode_eq_none_iff_reserved, fun s h rest hs ho hport => ?_⟩
  have hd : decode s.port = .illegal .unknownOpcode rest := by rw [hport, decode_of_unknown ho]
  exact agentStep_of_illegal hs (portDecode_of_illegal hd)

/-- Settles O5: each stream is the encoding of its command, and encodings decode. -/
theorem specWordsDecode : Obligations.SpecWordsDecode :=
  ⟨decodeOfEncode (.rbPush 0x1234) [] trivial, decodeOfEncode (.smInit 3) [] trivial,
    decodeOfEncode (.scNew 3 4) [] trivial, decodeOfEncode (.rbWriteBulk [10, 20]) [] (by decide),
    decodeOfEncode (.tbReadBulk ⟨3, 3, 3, 3⟩) [] trivial, decodeOfEncode (.scBlock true) [] trivial,
    decodeOfEncode (.smRecv .p1) [] trivial, decodeOfEncode .isrXferDone [] trivial⟩

/-- Settles O6: the expansions are the definition's equations, and the line reader is run on each
line. -/
theorem assemblerExpands : Obligations.AssemblerExpands := by
  refine ⟨fun _ => rfl, fun _ => rfl, fun _ => rfl, fun _ => rfl, rfl, rfl, ?_⟩
  decide

/-- Settles O7: what the port gives FG's turn, and what the interrupt agent issues once it has taken
the interrupt. -/
theorem stepRunsDecoded : Obligations.StepRunsDecoded := by
  refine ⟨fun s i rest hs hd hx hc => ?_, fun s hturn hisr => ?_⟩
  · exact congrArg redrawn (agentStep_of_instr hs (portDecode_of_instr hd hx hc))
  · exact congrArg redrawn (agentStep_of_entered hturn hisr)

/-- Settles O8: each field of the status word is one of the three parts it is joined of. -/
theorem responseStatusWord : Obligations.ResponseStatusWord := by
  refine ⟨fun r => ⟨?_, ?_, ?_⟩, rfl⟩
  · exact BitVec.extractLsb'_append_eq_right
  · rw [Response.statusWord, BitVec.extractLsb'_append_eq_of_le (by decide)]
    exact BitVec.extractLsb'_append_eq_right
  · rw [Response.statusWord, BitVec.extractLsb'_append_eq_of_le (by decide)]
    exact BitVec.extractLsb'_append_eq_left

end Sys2Proof.Machine

/-! ## Runs of FG's command with no other agent's step in between (10_state.md R32)

A run of a command is followed core by core. What a step at a position of FGSEQ does depends on the
draws of that step and never on the position, so each core is one equation: the run of its steps
from the state at its entry is the rest of the run from the state its caller goes on with. -/

namespace Sys2Proof.Machine

section
variable {s t : State} {e e1 e2 : Env} {es : List Env} {f : FgSeq}

/-! ### The draws of a step, and FGSEQ's position -/

/-- The state with the draws of the step it is about to make. -/
def State.under (e : Env) (s : State) : State := { s with env := e }

theorem goto_of_fg (h : s.fg = f) : s.goto f = s := by
  rw [← h]
  rfl

/-! No register write and no return of a core sees the position. -/

theorem leaveMulti_goto : (s.goto f).leaveMulti = s.leaveMulti.goto f := by
  unfold State.leaveMulti
  rw [apply_ite (State.goto f)]
  rfl

theorem settleMode_goto (before s : State) :
    (before.goto f).settleMode (s.goto f) = (before.settleMode s).goto f := by
  unfold State.settleMode
  rw [leaveMulti_goto, apply_ite (State.goto f), apply_ite (State.goto f)]
  rfl

theorem requestStart_goto : (s.goto f).requestStart = s.requestStart.goto f := by
  unfold State.requestStart
  rw [apply_ite (State.goto f)]
  rfl

theorem writeRcnt_goto {v : Word} : (s.goto f).writeRcnt v = (s.writeRcnt v).goto f := by
  cases h : v[15]
  · rw [writeRcnt_serial _ h, writeRcnt_serial _ h]
    exact settleMode_goto s { s with rcnt := v }
  · rw [writeRcnt_alternate _ h, writeRcnt_alternate _ h, apply_ite (State.goto f)]
    rfl

theorem writeSiocnt_goto {v : Word} : (s.goto f).writeSiocnt v = (s.writeSiocnt v).goto f := by
  have hset := settleMode_goto (f := f) s { s with sio := s.sio.store v }
  unfold State.writeSiocnt
  dsimp only
  rw [apply_ite (State.goto f), ← requestStart_goto, ← hset]
  rfl

theorem smFail_goto {c : SmCaller} : smFail c (s.goto f) = smFail c s := by
  cases c <;> rfl

theorem initDone_goto {c : SmCaller} : initDone c (s.goto f) = initDone c s := by
  cases c <;> rfl

theorem readyDone_goto {c : ReadyCaller} : readyDone c (s.goto f) = readyDone c s := by
  cases c <;> rfl

theorem discDone_goto {c : SmCaller} {id : BitVec 2} :
    discDone c id (s.goto f) = discDone c id s := by
  cases c <;> rfl

theorem startDone_goto {c : StartCaller} {st : Status} :
    startDone c st (s.goto f) = startDone c st s := by
  cases c with
  | discover d => simp only [startDone, smFail_goto]; rfl
  | _ => rfl

/-! ### One step of a run -/

theorem play_cons_of_next (h : stepUnder e s = .next t) : play (e :: es) s = play es t := by
  rw [play, h]

/-- A step of FG's command in progress. -/
theorem play_goto (hturn : e.turn = .fg) (hisr : s.isr = .idle)
    (h : fgAdvance ((s.under e).goto f) = .next t) (hf : f ≠ .idle := by nofun) :
    play (e :: es) (s.goto f) = play es t := by
  have hquiet : ((s.under e).goto f).isrActive = false := by
    simp [State.isrActive, State.under, hisr]
  have hfg : fgTurn ((s.under e).goto f) = .next t := by
    rw [fgTurn, hquiet, if_neg Bool.false_ne_true, State.goto_fg, if_neg hf, h]
  apply play_cons_of_next
  rw [← hfg]
  show agentStep ((s.under e).goto f) = fgTurn ((s.under e).goto f)
  rw [agentStep, State.goto_env, State.under, hturn]

theorem play_of_fg (hturn : e.turn = .fg) (hisr : s.isr = .idle) (hfg : s.fg = f)
    (h : fgAdvance ((s.under e).goto f) = .next t) (hf : f ≠ .idle := by nofun) :
    play (e :: es) s = play es t :=
  goto_of_fg hfg ▸ play_goto hturn hisr h hf

/-- A step of FG's command in progress, after a step with other draws. -/
theorem play_goto_under (hturn : e2.turn = .fg) (hisr : s.isr = .idle)
    (h : fgAdvance ((s.under e2).goto f) = .next t) (hf : f ≠ .idle := by nofun) :
    play (e2 :: es) ((s.under e1).goto f) = play es t :=
  play_goto (s := s.under e1) hturn hisr h hf

/-! ### The start of a run: sm_check passes (40_transfer_state_machine.md R160) -/

theorem smCheck_of_ownsHandle {b : Bool} (hown : s.ownsHandle) (hi : b = true → s.smInited = true) :
    smCheck b s = none := by
  rw [smCheck, if_neg, if_neg]
  · exact fun ⟨hb, hni⟩ => Bool.false_ne_true (hni.symm.trans (hi hb))
  · rcases hown with hsc | hsc <;> simp [hsc]

/-! ### Into multiplayer mode (40_transfer_state_machine.md R150, R152)

sm_init_core and sm_ready_core both write RCNT, read SIOCNT, and write it back with MODE 0b10 and a
rate. -/

/-- id_valid behind an entry into multiplayer mode: kept where the mode was multiplayer before, else
0 (20_memory.md R88, log 14). -/
def State.idValidAfterEntry (s : State) : Bool := decide s.multi && s.idValid

theorem idValidKept_afterEntry (s : State) : s.idValidKept s.idValidAfterEntry :=
  ⟨fun hm => by simp [State.idValidAfterEntry, hm], fun hv => by simp [State.idValidAfterEntry, hv]⟩

theorem idValidAfterEntry_of_other (ho : ¬ s.multi) : s.idValidAfterEntry = false := by
  rw [State.idValidAfterEntry, decide_eq_false ho, Bool.false_and]

/-- An RCNT write of 0x0000 that changes no mode. -/
theorem writeRcnt_zero_of_same (h : s.multi ∨ s.sio.mode ≠ 2) :
    s.writeRcnt 0 = { s with rcnt := 0 } := by
  rw [writeRcnt_serial s (by decide)]
  refine settleMode_of_same _ _ ⟨fun hm => ⟨by simp, hm.2⟩, fun hm => ?_⟩
  exact h.resolve_right (not_not.mpr hm.2)

/-- An RCNT write of 0x0000 where MODE is 0b10 already. -/
theorem writeRcnt_zero_enters (ho : ¬ s.multi) (hmode : s.sio.mode = 2) :
    s.writeRcnt 0 =
      { s with rcnt := 0, sio := { s.sio with err := s.env.err }, idValid := false } := by
  rw [writeRcnt_serial s (by decide)]
  exact settleMode_enter _ _ ho ⟨by simp, hmode⟩

section
variable {v : Word} {rate : BaudRate} (hv : s.sio.store v = s.sio)
include hv

/-- The mode-and-rate write in multiplayer mode. -/
theorem writeModeBaud_of_multi (hm : s.multi) :
    s.writeSiocnt (withModeBaud rate v) =
      { s with sio := { s.sio with baud := rate, mode := 2 } } := by
  rw [writeSiocnt_withModeBaud s rate hv]
  exact settleMode_of_same _ _ (iff_of_true hm ⟨hm.1, rfl⟩)

/-- The mode-and-rate write that makes the mode multiplayer. -/
theorem writeModeBaud_enters (hrcnt : s.rcnt[15] = false) (hmode : s.sio.mode ≠ 2) :
    s.writeSiocnt (withModeBaud rate v) =
      { s with
        sio := { s.sio with baud := rate, mode := 2, err := s.env.err }, idValid := false } := by
  rw [writeSiocnt_withModeBaud s rate hv]
  exact settleMode_enter _ _ (fun hm => hmode hm.2) ⟨hrcnt, rfl⟩

end

/-- The two writes leave multiplayer mode at the rate: entered before them, by the first, or by the
second. -/
theorem writeModeBaud_writeRcnt_zero {v : Word} (rate : BaudRate) (e : Env)
    (hv : (s.writeRcnt 0).sio.store v = (s.writeRcnt 0).sio) :
    ((s.writeRcnt 0).under e).writeSiocnt (withModeBaud rate v) =
      s.inMulti rate (s.errAfterEntry s.env e) s.idValidAfterEntry e := by
  have hv' : ((s.writeRcnt 0).under e).sio.store v = ((s.writeRcnt 0).under e).sio := hv
  have h15 : (0 : Word)[15] = false := by decide
  by_cases hm : s.multi
  · rw [writeRcnt_zero_of_same (.inl hm)] at hv' ⊢
    rw [writeModeBaud_of_multi hv' ⟨h15, hm.2⟩, State.errAfterEntry, if_pos hm,
      (idValidKept_afterEntry s).1 hm]
    rfl
  have hid := idValidAfterEntry_of_other hm
  by_cases hmode : s.sio.mode = 2
  · rw [writeRcnt_zero_enters hm hmode] at hv' ⊢
    rw [writeModeBaud_of_multi hv' ⟨h15, hmode⟩, State.errAfterEntry, if_neg hm, if_pos hmode, hid]
    rfl
  · rw [writeRcnt_zero_of_same (.inr hmode)] at hv' ⊢
    rw [writeModeBaud_enters hv' h15 hmode, State.errAfterEntry, if_neg hm, if_neg hmode, hid]
    rfl

theorem inMulti_multi (s : State) (rate : BaudRate) (err id : Bool) (e : Env) :
    (s.inMulti rate err id e).multi :=
  ⟨by simp [State.inMulti], rfl⟩

/-! ### What FG's step at a position of the cores does

The position itself is gone from the outcome. -/

section
variable {c : SmCaller} {r : ReadyCaller} {k : StartCaller} {rate : BaudRate} {v : Word}
  {id : BitVec 2}

theorem fgAdvance_initReadSio :
    fgAdvance (s.goto (.initReadSio c rate)) = .next (initReadSio c rate s) := rfl

theorem fgAdvance_initWriteSio :
    fgAdvance (s.goto (.initWriteSio c rate v)) = .next (initWriteSio c rate v s) := by
  show Host.Outcome.next (initWriteSio c rate v (s.goto _)) = _
  rw [initWriteSio, writeSiocnt_goto]
  rfl

theorem fgAdvance_initReadErr :
    fgAdvance (s.goto (.initReadErr c rate)) = .next (initReadErr c rate s) := by
  rw [initReadErr, ← smFail_goto]
  rfl

theorem fgAdvance_initReadRole :
    fgAdvance (s.goto (.initReadRole c rate)) = .next (initReadRole c rate s) := by
  rw [initReadRole, ← initDone_goto]
  rfl

theorem fgAdvance_readyWriteRcnt :
    fgAdvance (s.goto (.readyWriteRcnt r)) = .next (readyWriteRcnt r s) := by
  show Host.Outcome.next (readyWriteRcnt r (s.goto _)) = _
  rw [readyWriteRcnt, writeRcnt_goto]
  rfl

theorem fgAdvance_readyReadSio :
    fgAdvance (s.goto (.readyReadSio r)) = .next (readyReadSio r s) := rfl

theorem fgAdvance_readyWriteSio :
    fgAdvance (s.goto (.readyWriteSio r v)) = .next (readyWriteSio r v s) := by
  rw [readyWriteSio, ← readyDone_goto, ← writeSiocnt_goto]
  rfl

theorem fgAdvance_startReadBusy :
    fgAdvance (s.goto (.startReadBusy k)) = .next (startReadBusy k s) := by
  rw [startReadBusy, ← startDone_goto]
  rfl

theorem fgAdvance_startReadSio :
    fgAdvance (s.goto (.startReadSio k)) = .next (startReadSio k s) := rfl

theorem fgAdvance_startWriteSio :
    fgAdvance (s.goto (.startWriteSio k v)) = .next (startWriteSio k v s) := by
  show Host.Outcome.next (startWriteSio k v (s.goto _)) = _
  rw [startWriteSio, writeSiocnt_goto]
  rfl

theorem fgAdvance_startReadReady :
    fgAdvance (s.goto (.startReadReady k)) = .next (startReadReady k s) := by
  rw [startReadReady, ← startDone_goto]
  rfl

theorem fgAdvance_startReadErr :
    fgAdvance (s.goto (.startReadErr k)) = .next (startReadErr k s) := by
  rw [startReadErr, ← startDone_goto, ← startDone_goto (st := .ok)]
  rfl

theorem fgAdvance_discWriteUnready :
    fgAdvance (s.goto (.discWriteUnready c)) = .next (discWriteUnready c s) := by
  show Host.Outcome.next (discWriteUnready c (s.goto _)) = _
  rw [discWriteUnready, smUnreadyCore, writeRcnt_goto]
  rfl

theorem fgAdvance_discReadId : fgAdvance (s.goto (.discReadId c)) = .next (discReadId c s) := rfl

theorem fgAdvance_discCheck : fgAdvance (s.goto (.discCheck c id)) = .next (discCheck c id s) := by
  rw [discCheck, ← discDone_goto]
  rfl

theorem fgAdvance_statusReadRcnt :
    fgAdvance (s.goto (.statusReadRcnt v)) = .next (statusReadRcnt v s) := rfl

end

/-! ### Runs of sm_init_core and sm_ready_core -/

theorem writeRcnt_isr (v : Word) (s : State) : (s.writeRcnt v).isr = s.isr := by
  rw [(LinkWrite.writeRcnt v s).frame]

theorem writeRcnt_smRate (v : Word) (s : State) : (s.writeRcnt v).smRate = s.smRate := by
  rw [(LinkWrite.writeRcnt v s).frame]

section
variable (h1 : e1.turn = .fg) (h2 : e2.turn = .fg) (hisr : s.isr = .idle)
include h1 h2 hisr

/-- sm_init_core up to its ERR check. -/
theorem play_initWriteRcnt (c : SmCaller) (rate : BaudRate) :
    play (e1 :: e2 :: es) (initWriteRcnt c rate s) =
      play es ((s.inMulti rate (s.errAfterEntry s.env e2) s.idValidAfterEntry e2).goto
        (.initReadErr c rate)) := by
  have hw : (s.writeRcnt 0).isr = .idle := by rw [writeRcnt_isr, hisr]
  rw [initWriteRcnt, play_goto h1 hw fgAdvance_initReadSio, initReadSio,
    play_goto_under h2 hw fgAdvance_initWriteSio, initWriteSio,
    writeModeBaud_writeRcnt_zero rate e2 (store_siocntRead ((s.writeRcnt 0).under e1))]

/-- sm_ready_core. -/
theorem play_readyWriteRcnt (r : ReadyCaller) :
    play (e1 :: e2 :: es) (readyWriteRcnt r s) =
      play es (readyDone r
        (s.inMulti s.smRate (s.errAfterEntry s.env e2) s.idValidAfterEntry e2)) := by
  have hw : (s.writeRcnt 0).isr = .idle := by rw [writeRcnt_isr, hisr]
  have hrate : ((s.writeRcnt 0).under e2).smRate = s.smRate := writeRcnt_smRate 0 s
  rw [readyWriteRcnt, play_goto h1 hw fgAdvance_readyReadSio, readyReadSio,
    play_goto_under h2 hw fgAdvance_readyWriteSio, readyWriteSio, hrate,
    writeModeBaud_writeRcnt_zero s.smRate e2 (store_siocntRead ((s.writeRcnt 0).under e1))]

end

section
variable {c : SmCaller} {rate : BaudRate} (hm : s.multi)
include hm

theorem initReadErr_of_err (h : s.sio.err = true) : initReadErr c rate s = smFail c s := by
  rw [initReadErr, flagErr_of_multi s hm, if_pos h]

theorem initReadErr_of_okay (h : s.sio.err = false) :
    initReadErr c rate s = s.goto (.initReadRole c rate) := by
  rw [initReadErr, flagErr_of_multi s hm, h, if_neg Bool.false_ne_true]

theorem initReadRole_of_multi :
    initReadRole c rate s =
      initDone c { s with smRole := s.cfg.roleHw, smRate := rate, smInited := true } := by
  rw [initReadRole, role_of_flagSi hm]

end

section
variable {e3 : Env} (h1 : e1.turn = .fg) (h2 : e2.turn = .fg) (h3 : e3.turn = .fg)
  (hisr : s.isr = .idle) (c : SmCaller) (rate : BaudRate)
include h1 h2 h3 hisr

/-- sm_init_core where ERR is 1. -/
theorem play_initWriteRcnt_err (herr : s.errAfterEntry s.env e2 = true) :
    play (e1 :: e2 :: e3 :: es) (initWriteRcnt c rate s) =
      play es (smFail c (s.inMulti rate true s.idValidAfterEntry e3)) := by
  let u := s.inMulti rate true s.idValidAfterEntry e2
  have hm : (u.under e3).multi := inMulti_multi s rate true s.idValidAfterEntry e3
  rw [play_initWriteRcnt h1 h2 hisr, herr, play_goto (s := u) h3 hisr fgAdvance_initReadErr,
    initReadErr_of_err hm rfl]
  rfl

/-- sm_init_core where ERR is 0. -/
theorem play_initWriteRcnt_okay {e4 : Env} (h4 : e4.turn = .fg)
    (herr : s.errAfterEntry s.env e2 = false) :
    play (e1 :: e2 :: e3 :: e4 :: es) (initWriteRcnt c rate s) =
      play es (initDone c { s.inMulti rate false s.idValidAfterEntry e4 with
        smRole := s.cfg.roleHw, smRate := rate, smInited := true }) := by
  let u := s.inMulti rate false s.idValidAfterEntry e2
  have hm (e : Env) : (u.under e).multi := inMulti_multi s rate false s.idValidAfterEntry e
  rw [play_initWriteRcnt h1 h2 hisr, herr, play_goto (s := u) h3 hisr fgAdvance_initReadErr,
    initReadErr_of_okay (hm e3) rfl, play_goto_under (s := u) h4 hisr fgAdvance_initReadRole,
    initReadRole_of_multi (hm e4)]
  rfl

end

/-! ### Runs of sm_start_core (40_transfer_state_machine.md R151) -/

theorem flagSd_under : (s.under e).flagSd = true ↔ s.readyUnder e := by
  simp only [State.flagSd, State.localReady, Bool.and_eq_true, decide_eq_true_eq]
  exact Iff.rfl

theorem flagBusy_iff (s : State) : s.flagBusy = true ↔ s.busyNow := by
  simp [State.flagBusy, State.localReady]

theorem readyUnder_afterStartWrite (e e' : Env) (s : State) :
    (s.afterStartWrite e).readyUnder e' ↔ s.readyUnder e' := by
  unfold State.afterStartWrite
  split_ifs <;> exact Iff.rfl

theorem afterStartWrite_sio (e : Env) (s : State) : (s.afterStartWrite e).sio = s.sio := by
  unfold State.afterStartWrite
  split_ifs <;> rfl

theorem afterStartWrite_isr (e : Env) (s : State) : (s.afterStartWrite e).isr = s.isr := by
  unfold State.afterStartWrite
  split_ifs <;> rfl

/-- The start write of a read-modify-write (20_memory.md R90). -/
theorem writeStart_under {v : Word} (hv : s.sio.store v = s.sio) :
    (s.under e).writeSiocnt (withStart v) = s.afterStartWrite e := by
  rw [writeSiocnt_withStart (s.under e) hv]
  refine if_congr (and_congr_right fun hm => ?_) rfl rfl
  rw [flagSd_under, State.readyUnder, and_iff_right (show s.multi from hm)]
  rfl

theorem startReadBusy_of_busy (k : StartCaller) (h : s.busyNow) :
    startReadBusy k s = startDone k .alreadyInProgress s := by
  rw [startReadBusy, if_pos ((flagBusy_iff s).mpr h)]

theorem startReadBusy_of_parent (k : StartCaller) (h : ¬ s.busyNow) (hrole : s.smRole = .parent) :
    startReadBusy k s = s.goto (.startReadSio k) := by
  rw [startReadBusy, if_neg (fun hb => h ((flagBusy_iff s).mp hb)), hrole]

theorem startReadBusy_of_child (k : StartCaller) (h : ¬ s.busyNow) (hrole : s.smRole = .child) :
    startReadBusy k s = s.goto (.startReadReady k) := by
  rw [startReadBusy, if_neg (fun hb => h ((flagBusy_iff s).mp hb)), hrole]

/-- The discovery loop goes on to the ID read on every answer but FAILED_OKAY_CHECK. -/
theorem startDone_discover {st : Status} (c : SmCaller) (h : st ≠ .failedOkayCheck) :
    startDone (.discover c) st s = s.goto (.discReadId c) :=
  if_neg h

/-- What the ERR check answers. -/
def State.okayStatus (s : State) : Status := if s.sio.err = true then .failedOkayCheck else .ok

theorem okayStatus_of_err (h : s.sio.err = true) : s.okayStatus = .failedOkayCheck := if_pos h

theorem okayStatus_of_okay (h : s.sio.err = false) : s.okayStatus = .ok := by
  rw [State.okayStatus, h, if_neg Bool.false_ne_true]

theorem startReadErr_under (k : StartCaller) (hm : s.multi) :
    startReadErr k (s.under e) = startDone k s.okayStatus (s.under e) := by
  rw [startReadErr, flagErr_of_multi (s.under e) hm, State.okayStatus,
    apply_ite (fun st => startDone k st (s.under e))]
  rfl

section
variable (hisr : s.isr = .idle) (k : StartCaller)
include hisr

/-- The ready check on SD = 0. -/
theorem play_startReadReady_unready (h1 : e1.turn = .fg) (hr : ¬ s.readyUnder e1) :
    play (e1 :: es) (s.goto (.startReadReady k)) =
      play es (startDone k .failedReadyCheck (s.under e1)) := by
  rw [play_goto h1 hisr fgAdvance_startReadReady, startReadReady,
    if_neg (fun hsd => hr (flagSd_under.mp hsd))]

/-- The ready check on SD = 1, and the ERR check. -/
theorem play_startReadReady_ready (h1 : e1.turn = .fg) (h2 : e2.turn = .fg) (hr : s.readyUnder e1) :
    play (e1 :: e2 :: es) (s.goto (.startReadReady k)) =
      play es (startDone k s.okayStatus (s.under e2)) := by
  rw [play_goto h1 hisr fgAdvance_startReadReady, startReadReady,
    if_pos (flagSd_under.mpr hr), play_goto_under h2 hisr fgAdvance_startReadErr,
    startReadErr_under k hr.1]

/-- A parent's start write. -/
theorem play_startReadSio (h1 : e1.turn = .fg) (h2 : e2.turn = .fg) :
    play (e1 :: e2 :: es) (s.goto (.startReadSio k)) =
      play es ((s.afterStartWrite e2).goto (.startReadReady k)) := by
  rw [play_goto h1 hisr fgAdvance_startReadSio, startReadSio,
    play_goto_under h2 hisr fgAdvance_startWriteSio, startWriteSio,
    writeStart_under (s := s) (store_siocntRead (s.under e1))]

/-- A parent from the start write on, where SD then reads 0. -/
theorem play_startReadSio_unready {e3 : Env} (h1 : e1.turn = .fg) (h2 : e2.turn = .fg)
    (h3 : e3.turn = .fg) (hr : ¬ s.readyUnder e3) :
    play (e1 :: e2 :: e3 :: es) (s.goto (.startReadSio k)) =
      play es (startDone k .failedReadyCheck ((s.afterStartWrite e2).under e3)) := by
  rw [play_startReadSio hisr k h1 h2, play_startReadReady_unready ?_ k h3]
  · rwa [readyUnder_afterStartWrite]
  · rw [afterStartWrite_isr, hisr]

/-- A parent from the start write on, where SD then reads 1. -/
theorem play_startReadSio_ready {e3 e4 : Env} (h1 : e1.turn = .fg) (h2 : e2.turn = .fg)
    (h3 : e3.turn = .fg) (h4 : e4.turn = .fg) (hr : s.readyUnder e3) :
    play (e1 :: e2 :: e3 :: e4 :: es) (s.goto (.startReadSio k)) =
      play es (startDone k s.okayStatus ((s.afterStartWrite e2).under e4)) := by
  rw [play_startReadSio hisr k h1 h2, play_startReadReady_ready ?_ k h3 h4, State.okayStatus,
    afterStartWrite_sio, State.okayStatus]
  · rwa [readyUnder_afterStartWrite]
  · rw [afterStartWrite_isr, hisr]

end

/-! ### Runs of sm_discover_core (40_transfer_state_machine.md R159) -/

section
variable {c : SmCaller} {id : BitVec 2}

theorem discReadId_of_unseen (h : s.seenComplete = false) :
    discReadId c s = s.goto (.startReadBusy (.discover c)) :=
  if_neg (Bool.eq_false_iff.mp h)

theorem discReadId_of_seen (h : s.seenComplete = true) :
    discReadId c s = s.goto (.discCheck c s.flagId) :=
  if_pos h

theorem discCheck_of_found (h : s.recv.get (PlayerId.ofBits id) = sentinel) :
    discCheck c id s = discDone c id s :=
  if_pos h

theorem discCheck_of_missed (h : s.recv.get (PlayerId.ofBits id) ≠ sentinel) :
    discCheck c id s = s.goto (.startReadBusy (.discover c)) :=
  if_neg h

end

/-- LINK abandons the transfer in progress as the mode is left (20_memory.md R88). -/
abbrev State.drops (s : State) : Prop := s.multi ∧ s.xferActive = true ∧ s.env.abandon = true

/-- The unit is in OTHER mode behind the unready write. -/
theorem smUnreadyCore_other (halt : s.cfg.altRcnt[15] = true) : ¬ (smUnreadyCore s).multi :=
  not_multi_of_rcnt (by rw [smUnreadyCore, (writeRcnt_alternate_rcnt halt).1, halt])

theorem smUnreadyCore_of_drops (halt : s.cfg.altRcnt[15] = true) (h : s.drops) :
    smUnreadyCore s =
      { s with
        rcnt := s.cfg.altRcnt, idValid := false, xferActive := false, recv := s.env.words } := by
  rw [smUnreadyCore, writeRcnt_alternate s halt, if_pos h]

theorem smUnreadyCore_of_keeps (halt : s.cfg.altRcnt[15] = true) (h : ¬ s.drops) :
    smUnreadyCore s = { s with rcnt := s.cfg.altRcnt, idValid := false } := by
  rw [smUnreadyCore, writeRcnt_alternate s halt, if_neg h]

/-- The state behind the discovery handshake that begins in s: multiplayer mode at sm_rate, with ERR
drawn by the one of the two ready writes, under e2 and e4, that entered it. -/
def State.afterHandshake (e2 e4 e5 : Env) (s : State) : State :=
  { s.inMulti s.smRate (if s.sio.mode = 2 then e2.err else e4.err) false e5 with
    send         := sentinel
    seenComplete := false
    xferActive   := if s.drops then false else s.xferActive
    recv         := if s.drops then s.env.words else s.recv }

/-- The handshake behind its unready write: SEND, the ready writes, the clear of seen_complete. -/
theorem play_discWriteSend {e3 e4 e5 : Env} (hturns : allTurns .fg [e1, e2, e3, e4, e5])
    (hisr : s.isr = .idle) (ho : ¬ s.multi) (c : SmCaller) :
    play (e1 :: e2 :: e3 :: e4 :: e5 :: es) (s.goto (.discWriteSend c)) =
      play es ({ s.inMulti s.smRate (if s.sio.mode = 2 then e2.err else e4.err) false e5 with
        send := sentinel, seenComplete := false }.goto (.startReadBusy (.discover c))) := by
  simp only [allTurns, List.forall_mem_cons] at hturns
  obtain ⟨h1, h2, h3, h4, h5, -⟩ := hturns
  let w := s.writeSend sentinel
  have herr : (w.under e2).errAfterEntry e2 e4 = if s.sio.mode = 2 then e2.err else e4.err :=
    if_neg ho
  have hid : (w.under e2).idValidAfterEntry = false := idValidAfterEntry_of_other ho
  calc play (e1 :: e2 :: e3 :: e4 :: e5 :: es) (s.goto (.discWriteSend c))
    _ = play (e2 :: e3 :: e4 :: e5 :: es) ((w.under e1).goto (.readyWriteRcnt (.discover c))) :=
      play_goto h1 hisr rfl
    _ = play (e3 :: e4 :: e5 :: es) (readyWriteRcnt (.discover c) (w.under e2)) :=
      play_goto_under h2 hisr fgAdvance_readyWriteRcnt
    _ = play (e5 :: es) (((w.under e2).inMulti s.smRate
          (if s.sio.mode = 2 then e2.err else e4.err) false e4).goto (.discClear c)) := by
      rw [← herr, ← hid]
      exact play_readyWriteRcnt (s := w.under e2) h3 h4 hisr (.discover c)
    _ = _ := play_goto h5 hisr rfl

/-- The handshake, from its unready write on. -/
theorem play_discWriteUnready {e3 e4 e5 : Env} (hturns : allTurns .fg [e1, e2, e3, e4, e5])
    (hisr : s.isr = .idle) (halt : s.cfg.altRcnt[15] = true) (c : SmCaller) :
    play (e1 :: e2 :: e3 :: e4 :: e5 :: es) (discWriteUnready c s) =
      play es ((s.afterHandshake e2 e4 e5).goto (.startReadBusy (.discover c))) := by
  have hisr' : (smUnreadyCore s).isr = .idle := by rw [smUnreadyCore, writeRcnt_isr, hisr]
  rw [discWriteUnready, play_discWriteSend hturns hisr' (smUnreadyCore_other halt),
    State.afterHandshake]
  by_cases h : s.drops
  · rw [smUnreadyCore_of_drops halt h, if_pos h, if_pos h]
    rfl
  · rw [smUnreadyCore_of_keeps halt h, if_neg h, if_neg h]
    rfl

end
end Sys2Proof.Machine

/-! ## The SM commands (40_transfer_state_machine.md R150 to R159) -/

namespace Sys2Proof

/-- A header word as its fields at their places (30_encoding.md R111). -/
theorem Instr.header_eq_or (i : Instr) :
    i.header =
      (i.op.code.setWidth 32 <<< 24) ||| (i.a2.setWidth 32 <<< 16) ||| i.imm.setWidth 32 := by
  rw [Instr.header, mkHeader]
  apply BitVec.eq_of_toNat_eq
  have hopc := i.op.code.isLt
  have ha2 := i.a2.isLt
  have himm := i.imm.isLt
  simp only [BitVec.toNat_append, BitVec.toNat_or, BitVec.toNat_shiftLeft, BitVec.toNat_setWidth,
    BitVec.toNat_zero, Nat.or_zero, BitVec.ofNat_eq_ofNat, Nat.shiftLeft_or_distrib,
    ← Nat.shiftLeft_add]
  simp (disch := omega) only [Nat.reduceAdd, Nat.reducePow, Nat.mod_eq_of_lt]

end Sys2Proof

namespace Sys2Proof.Machine

section
variable {s : State}

/-! ### The first step of each command -/

theorem exec_smInit (rate : BaudRate) (hown : s.ownsHandle) :
    exec (.smInit rate) s = .next (initWriteRcnt .command rate s) := by
  rw [exec, execSmInit, smCheck_of_ownsHandle (b := false) hown nofun]

section
variable (hown : s.ownsHandle) (hi : s.smInited = true)
include hown hi

theorem exec_smStart : exec .smStart s = .next (startReadBusy .command s) := by
  rw [exec, execSmStart, smCheck_of_ownsHandle hown fun _ => hi]

theorem exec_smReady : exec .smReady s = .next (readyWriteRcnt .command s) := by
  rw [exec, execSmReady, smCheck_of_ownsHandle hown fun _ => hi]

theorem exec_smUnready : exec .smUnready s = .next ((smUnreadyCore s).respond .ok 0 []) := by
  rw [exec, execSmUnready, smCheck_of_ownsHandle hown fun _ => hi]
  rfl

theorem exec_smRole : exec .smRole s = .next (s.respond .ok (roleValue s.smRole) []) := by
  rw [exec, execSmRole, smCheck_of_ownsHandle hown fun _ => hi]

theorem exec_smStatus : exec .smStatus s = .next (s.goto (.statusReadRcnt s.siocntRead)) := by
  rw [exec, execSmStatus, smCheck_of_ownsHandle hown fun _ => hi]

theorem exec_smId : exec .smId s = .next (s.respond .ok (idValue s.flagId) []) := by
  rw [exec, execSmId, smCheck_of_ownsHandle hown fun _ => hi]

theorem exec_smSend (w : Word) : exec (.smSend w) s = .next ((s.writeSend w).respond .ok 0 []) := by
  rw [exec, execSmSend, smCheck_of_ownsHandle hown fun _ => hi]
  rfl

theorem exec_smRecv (slot : PlayerId) :
    exec (.smRecv slot) s = .next (s.respond .ok (s.recv.get slot) []) := by
  rw [exec, execSmRecv, smCheck_of_ownsHandle hown fun _ => hi]

theorem exec_smDiscover : exec .smDiscover s = .next (discWriteUnready .command s) := by
  rw [exec, execSmDiscover, smCheck_of_ownsHandle hown fun _ => hi]

end

theorem roleValue_eq_ite (r : Role) : roleValue r = if r = .parent then 0 else 1 := by
  cases r <;> rfl

theorem flagId_eq_posHw (hm : s.multi) (hv : s.idValid = true) :
    s.flagId = BitVec.ofNat 2 s.cfg.posHw.toNat := by
  rw [flagId_of_valid s hm hv, PlayerId.toBits_eq_ofNat]

theorem flagId_eq_draw (h : ¬ (s.multi ∧ s.idValid = true)) :
    s.flagId = s.env.garbage.extractLsb' 4 2 :=
  if_neg h

end

/-! ### SM.INIT, SM.READY and SM.UNREADY -/

/-- Settles O29: the run of sm_init_core to its ERR check, and on from there in each case. -/
theorem smInitEntersMultiplayer : Obligations.SmInitEntersMultiplayer := by
  intro s rate e1 e2 e3 e4 hturns hisr hown
  simp only [allTurns, List.forall_mem_cons] at hturns
  obtain ⟨h1, h2, h3, h4, -⟩ := hturns
  refine ⟨?_, _, _, exec_smInit rate hown, idValidKept_afterEntry s, fun herr => ?_, fun herr => ?_⟩
  · rw [Instr.header_eq_or]
    simp [Instr.op, Op.code, Instr.a2, Instr.imm]
  · rw [play_initWriteRcnt_err h1 h2 h3 hisr .command rate herr]
    rfl
  · rw [play_initWriteRcnt_okay h1 h2 h3 hisr .command rate h4 herr, ← roleValue_eq_ite]
    rfl

/-- Settles O30: the run of sm_ready_core. -/
theorem smReadyEntersMultiplayer : Obligations.SmReadyEntersMultiplayer := by
  intro s e1 e2 hturns hisr hown hi
  simp only [allTurns, List.forall_mem_cons] at hturns
  obtain ⟨h1, h2, -⟩ := hturns
  refine ⟨rfl, _, _, exec_smReady hown hi, idValidKept_afterEntry s, ?_⟩
  exact play_readyWriteRcnt h1 h2 hisr .command

/-- Settles O31: the unready write, with the transfer in progress abandoned and without. -/
theorem smUnreadyLeavesMultiplayer : Obligations.SmUnreadyLeavesMultiplayer := by
  intro s hown hi halt
  have ho : ¬ ((smUnreadyCore s).respond .ok 0 []).multi := smUnreadyCore_other halt
  refine ⟨rfl, _, exec_smUnready hown hi, ho, flagSd_of_other _ ho, flagBusy_of_other _ ho,
    (writeRcnt_alternate_rcnt halt).2, fun hkeep => ?_, fun ⟨hm, hx⟩ ha => ?_⟩
  · rw [smUnreadyCore_of_keeps halt fun ⟨hm, hx, ha⟩ => hkeep ⟨⟨hm, hx⟩, ha⟩]
  · rw [smUnreadyCore_of_drops halt ⟨hm, hx, ha⟩]

/-! ### SM.START -/

/-- Settles O32: the busy check, and the run of sm_start_core on a parent and on a child. -/
theorem smStartChecksAndStarts : Obligations.SmStartChecksAndStarts := by
  intro s e1 e2 e3 e4 hturns hisr hown hi
  simp only [allTurns, List.forall_mem_cons] at hturns
  obtain ⟨h1, h2, h3, h4, -⟩ := hturns
  rw [exec_smStart hown hi]
  refine ⟨rfl, fun hbusy => ?_, fun hbusy hrole => ?_, fun hbusy hrole => ?_⟩
  · rw [startReadBusy_of_busy _ hbusy]
    rfl
  · rw [startReadBusy_of_parent _ hbusy hrole]
    exact ⟨_, rfl, play_startReadSio_unready hisr _ h1 h2 h3,
      play_startReadSio_ready hisr _ h1 h2 h3 h4⟩
  · rw [startReadBusy_of_child _ hbusy hrole]
    exact ⟨_, rfl, play_startReadReady_unready hisr _ h1, play_startReadReady_ready hisr _ h1 h2⟩

/-! ### SM.ROLE, SM.ID, SM.SEND, SM.RECV and SM.STATUS -/

/-- Settles O33: each command is its one step. -/
theorem smSingleAccesses : Obligations.SmSingleAccesses := by
  intro s w slot hown hi
  refine ⟨rfl, rfl, ?_, ?_, ?_, ⟨s.flagId, exec_smId hown hi, flagId_eq_posHw, flagId_eq_draw⟩,
    exec_smSend hown hi w, exec_smRecv hown hi slot⟩
  · rw [Instr.header_eq_or]
    simp [Instr.op, Op.code, Instr.a2, Instr.imm]
  · cases slot <;> rfl
  · rw [exec_smRole hown hi, roleValue_eq_ite]

/-- VALUE of SM.STATUS, bit by bit (40_transfer_state_machine.md R155). -/
theorem statusValue_getLsbD (v rc : Word) (i : Nat) :
    (statusValue v rc).getLsbD i =
      [v[2], v[3], v[4], v[5], v[6], v[7], !rc[15] && v.extractLsb' 12 2 == 2, v[0], v[1],
        v[14]].getD i false := by
  rw [statusValue, BitVec.getLsbD_setWidth]
  simp only [BitVec.getLsbD_append]
  rcases i with _ | _ | _ | _ | _ | _ | _ | _ | _ | _ | i <;> simp

theorem statusValue_id (v rc : Word) : (statusValue v rc).extractLsb' 2 2 = v.extractLsb' 4 2 := by
  ext i hi
  rw [BitVec.getElem_extractLsb', BitVec.getElem_extractLsb', statusValue_getLsbD]
  interval_cases i <;> rfl

theorem statusValue_baud (v rc : Word) :
    (statusValue v rc).extractLsb' 7 2 = v.extractLsb' 0 2 := by
  ext i hi
  rw [BitVec.getElem_extractLsb', BitVec.getElem_extractLsb', statusValue_getLsbD]
  interval_cases i <;> rfl

theorem statusValue_top (v rc : Word) : (statusValue v rc).extractLsb' 10 6 = 0 := by
  ext i hi
  rw [BitVec.getElem_extractLsb', statusValue_getLsbD,
    List.getD_eq_default _ _ (Nat.le_add_right 10 i)]
  simp

theorem multiBit_eq (s : State) :
    (!s.rcnt[15] && s.siocntRead.extractLsb' 12 2 == 2) = decide s.multi := by
  rw [siocntRead_mode, Bool.eq_iff_iff]
  simp

/-- Settles O34: each bit of VALUE is a bit of the word read or the mode. -/
theorem smStatusPacksFlags : Obligations.SmStatusPacksFlags := by
  intro s e hturn hisr hown hi
  have hbit {i : Nat} (h : i < 16) := (BitVec.getLsbD_eq_getElem h).symm.trans
    (statusValue_getLsbD s.siocntRead s.rcnt i)
  refine ⟨rfl, _, statusValue s.siocntRead s.rcnt, exec_smStatus hown hi,
    play_goto hturn hisr fgAdvance_statusReadRcnt, (hbit _).trans (siocntRead_si s),
    fun hm => ?_, fun ho => ?_, ?_, (hbit _).trans (siocntRead_err s),
    (hbit _).trans (siocntRead_busy s), (hbit _).trans (multiBit_eq s), ?_,
    (hbit _).trans (siocntRead_irq s), statusValue_top _ _⟩
  · exact (hbit _).trans ((siocntRead_sd s).trans (if_pos hm))
  · exact (hbit _).trans ((siocntRead_sd s).trans (readSd_of_other s ho))
  · rw [statusValue_id, siocntRead_id]
  · rw [statusValue_baud, siocntRead_baud]

/-! ### Discovery -/

/-- Settles O35: the run of the handshake, from SM.DISCOVER and from SC.NEW's own position. -/
theorem discoveryHandshake : Obligations.DiscoveryHandshake := by
  intro s e0 e1 e2 e3 e4 e5 hturns hisr halt
  obtain ⟨h0, hturns⟩ := List.forall_mem_cons.mp hturns
  refine ⟨fun henv hown hi => ⟨rfl, _, exec_smDiscover hown hi, ?_⟩, fun l hfg => ?_⟩
  · rw [play_discWriteUnready hturns hisr halt]
    subst henv
    rfl
  · rw [play_of_fg h0 hisr hfg fgAdvance_discWriteUnready]
    exact play_discWriteUnready (s := s.under e0) hturns hisr halt (.new l)

/-- Settles O36: the run of sm_start_core for the discovery loop, and what each of its answers does
there. -/
theorem discoveryAttempt : Obligations.DiscoveryAttempt := by
  intro s c e1 e2 e3 e4 e5 hturns hisr hfg failed
  simp only [allTurns, List.forall_mem_cons] at hturns
  obtain ⟨h1, h2, h3, h4, h5, -⟩ := hturns
  have hisr' : (s.under e1).isr = .idle := hisr
  have hbegin (es : List Env) :
      play (e1 :: es) s = play es (startReadBusy (.discover c) (s.under e1)) :=
    play_of_fg h1 hisr hfg fgAdvance_startReadBusy
  have hokay (u : State) (hok : s.sio.err = false) :
      startDone (.discover c) (s.under e1).okayStatus u = u.goto (.discReadId c) := by
    rw [okayStatus_of_okay (s := s.under e1) hok, startDone_discover (st := .ok) c nofun]
  have herror (u : State) (herr : s.sio.err = true) :
      startDone (.discover c) (s.under e1).okayStatus u = failed u := by
    rw [okayStatus_of_err (s := s.under e1) herr]
    cases c <;> rfl
  refine ⟨fun hbusy => ?_, fun hbusy hrole => ?_, fun hbusy hrole => ?_⟩
  · rw [hbegin, startReadBusy_of_busy (s := s.under e1) _ hbusy]
    exact congrArg Host.Outcome.next (startDone_discover c nofun)
  · have hstart (es : List Env) := (hbegin es).trans
      (congrArg (play es) (startReadBusy_of_parent (s := s.under e1) (.discover c) hbusy hrole))
    refine ⟨fun hr => ?_, fun hr hok => ?_, fun hr herr => ?_⟩
    · rw [hstart, play_startReadSio_unready hisr' _ h2 h3 h4 hr]
      exact congrArg Host.Outcome.next (startDone_discover c nofun)
    · rw [hstart, play_startReadSio_ready hisr' _ h2 h3 h4 h5 hr]
      exact congrArg Host.Outcome.next (hokay _ hok)
    · rw [hstart, play_startReadSio_ready hisr' _ h2 h3 h4 h5 hr]
      exact congrArg Host.Outcome.next (herror _ herr)
  · have hcheck (es : List Env) := (hbegin es).trans
      (congrArg (play es) (startReadBusy_of_child (s := s.under e1) (.discover c) hbusy hrole))
    refine ⟨fun hr => ?_, fun hr hok => ?_, fun hr herr => ?_⟩
    · rw [hcheck, play_startReadReady_unready hisr' _ h2 hr]
      exact congrArg Host.Outcome.next (startDone_discover c nofun)
    · rw [hcheck, play_startReadReady_ready hisr' _ h2 h3 hr]
      exact congrArg Host.Outcome.next (hokay _ hok)
    · rw [hcheck, play_startReadReady_ready hisr' _ h2 h3 hr]
      exact congrArg Host.Outcome.next (herror _ herr)

/-- In the discovery loop a completion has made the ID valid (40_transfer_state_machine.md R159). -/
theorem idValid_of_inv {s : State} {c : SmCaller} (hinv : s.Inv) (hc : s.cfg.config = .session)
    (hfg : s.fg = .discReadId c) (hseen : s.seenComplete = true) :
    s.multi ∧ s.idValid = true := by
  have ⟨_, hfit⟩ := (sessionOk_iff s).mp (hinv.session hc)
  rw [hfg] at hfit
  obtain ⟨-, -, hm, hvalid⟩ := hfit
  exact ⟨hm, hvalid hseen⟩

/-- Settles O37: the ID read with its test of seen_complete, and the RECV read. -/
theorem discoveryExit : Obligations.DiscoveryExit := by
  intro s c e1 e2 hturns hisr hfg
  simp only [allTurns, List.forall_mem_cons] at hturns
  obtain ⟨h1, h2, -⟩ := hturns
  have hread (es : List Env) : play (e1 :: es) s = play es (discReadId c (s.under e1)) :=
    play_of_fg h1 hisr hfg fgAdvance_discReadId
  refine ⟨fun hseen => ?_, fun hseen => ?_⟩
  · rw [hread, discReadId_of_unseen (s := s.under e1) hseen]
    rfl
  have hcheck : play [e1, e2] s = .next (discCheck c (s.under e1).flagId (s.under e2)) := by
    rw [hread, discReadId_of_seen (s := s.under e1) hseen,
      play_goto_under h2 hisr fgAdvance_discCheck, play]
  rw [hcheck]
  refine ⟨(s.under e1).flagId, flagId_eq_posHw (s := s.under e1),
    flagId_eq_draw (s := s.under e1), fun hinv hc => ?_, fun hfound hcmd => ?_,
    fun hfound l hnew => ?_, fun hmiss => ?_⟩
  · obtain ⟨hm, hv⟩ := idValid_of_inv hinv hc hfg hseen
    exact flagId_eq_posHw (s := s.under e1) hm hv
  · rw [discCheck_of_found (s := s.under e2) hfound, hcmd]
    rfl
  · rw [discCheck_of_found (s := s.under e2) hfound, hnew]
    rfl
  · rw [discCheck_of_missed (s := s.under e2) hmiss]
    rfl

end Sys2Proof.Machine

/-! ## The buffers' commands: presence, allocation and length (41_ring_buffer.md R183 to R185, R190;
42_transfer_buffer.md R213 to R215, R220) -/

namespace Sys2Proof

/-- The header of a command whose only operand is IMM16 (30_encoding.md R111). -/
theorem Instr.header_of_imm {i : Instr} {base : BitVec 32} (o : Op) (ho : i.op = o)
    (ha2 : i.a2 = 0) (hbase : o.code.setWidth 32 <<< 24 = base) :
    i.header = base ||| i.imm.setWidth 32 := by
  rw [Instr.header_eq_or, ha2, ho, hbase]
  simp

end Sys2Proof

namespace Sys2Proof.Machine

section
variable {s : State}

/-! ### Commands on an absent buffer -/

/-- "`rb_check()`: if `rb.present == 0` it raises NO_BUFFER()" (41_ring_buffer.md R183). -/
theorem exec_rb_absent {i : Instr} (h : s.rb.present = false)
    (hi : i.op ∈ [Op.rbFree, .rbPush, .rbPop, .rbReadBulk, .rbWriteBulk, .rbLen]) :
    exec i s = .next (s.respond .noBuffer 0 []) := by
  cases i with
  | rbFree => exact if_pos h
  | rbPush v => exact if_pos h
  | rbPop => exact if_pos h
  | rbReadBulk n => exact if_pos h
  | rbWriteBulk ws => exact if_pos h
  | rbLen => exact if_pos h
  | _ => simp [Instr.op] at hi

/-- The same check of TB (42_transfer_buffer.md R213). -/
theorem exec_tb_absent {i : Instr} (h : s.tb.present = false)
    (hi : i.op ∈ [Op.tbFree, .tbPush, .tbPop, .tbPeek, .tbReadBulk, .tbLen]) :
    exec i s = .next (s.respond .noBuffer 0 []) := by
  cases i with
  | tbFree => exact if_pos h
  | tbPush t => exact if_pos h
  | tbPop => exact if_pos h
  | tbPeek => exact if_pos h
  | tbReadBulk l => exact if_pos h
  | tbLen => exact if_pos h
  | _ => simp [Instr.op] at hi

/-! ### Allocation -/

theorem not_capacityLegal {cfg : Params} {cap : Word} (h : cap = 0 ∨ cfg.capMax < cap.toNat) :
    ¬ capacityLegal cfg cap := by
  rintro ⟨hpos, hmax⟩
  rcases h with rfl | h
  · simp at hpos
  · omega

theorem capacityLegal_of_le {cfg : Params} {cap : Word} (h0 : cap ≠ 0)
    (hmax : cap.toNat ≤ cfg.capMax) : capacityLegal cfg cap :=
  ⟨Nat.pos_of_ne_zero fun h => h0 (BitVec.eq_of_toNat_eq h), hmax⟩

theorem exec_rbAlloc_of_error {cap : Word} {st : Status} (h : rbAllocCore cap s = .error st) :
    exec (.rbAlloc cap) s = .next (s.respond st 0 []) := by
  rw [exec, execRbAlloc, h]
  rfl

theorem exec_tbAlloc_of_error {cap : Word} {st : Status} (h : tbAllocCore cap s = .error st) :
    exec (.tbAlloc cap) s = .next (s.respond st 0 []) := by
  rw [exec, execTbAlloc, h]
  rfl

theorem rbAllocCore_of_illegal {cap : Word} (h : s.rb.present = false)
    (hcap : ¬ capacityLegal s.cfg cap) : rbAllocCore cap s = .error .invalidCapacity := by
  rw [rbAllocCore, if_neg (by simp [h]), if_pos hcap]

theorem tbAllocCore_of_illegal {cap : Word} (h : s.tb.present = false)
    (hcap : ¬ capacityLegal s.cfg cap) : tbAllocCore cap s = .error .invalidCapacity := by
  rw [tbAllocCore, if_neg (by simp [h]), if_pos hcap]

theorem exec_rbAlloc_of_legal {cap : Word} (h : s.rb.present = false)
    (hcap : capacityLegal s.cfg cap) :
    exec (.rbAlloc cap) s = .next ({ s with rb := Queue.fresh cap.toNat }.respond .ok 0 []) := by
  rw [exec, execRbAlloc, rbAllocCore_eq_ok.mpr ⟨h, hcap, rfl⟩]
  rfl

theorem exec_tbAlloc_of_legal {cap : Word} (h : s.tb.present = false)
    (hcap : capacityLegal s.cfg cap) :
    exec (.tbAlloc cap) s = .next ({ s with tb := Queue.fresh cap.toNat }.respond .ok 0 []) := by
  rw [exec, execTbAlloc, tbAllocCore_eq_ok.mpr ⟨h, hcap, rfl⟩]
  rfl

/-- A fresh RB holds nothing (41_ring_buffer.md R184). -/
theorem rbHolds_fresh {c : Nat} (hpos : 1 ≤ c) (hmax : c ≤ s.cfg.capMax) :
    State.rbHolds { s with rb := Queue.fresh c } [] :=
  ⟨rfl, Queue.legal_fresh hpos hmax, by simp [State.rbContents, Queue.headSlots]⟩

/-- A fresh TB holds nothing (42_transfer_buffer.md R214). -/
theorem tbHolds_fresh {c : Nat} (hpos : 1 ≤ c) (hmax : c ≤ s.cfg.capMax) :
    State.tbHolds { s with tb := Queue.fresh c } [] :=
  ⟨rfl, Queue.legal_fresh hpos hmax, fun p _ => by simp [State.tbLane, Queue.headLane]⟩

/-! ### Release and length -/

theorem rbHolds_occ {ws : List Word} (h : s.rbHolds ws) : s.rb.occ = ws.length := by
  obtain ⟨-, -, hcontents⟩ := h
  simpa [State.rbContents, Queue.headSlots] using congrArg List.length hcontents

theorem tbHolds_occ {ts : List (Four Word)} (h : s.tbHolds ts) : s.tb.occ = ts.length := by
  obtain ⟨-, -, hlanes⟩ := h
  simpa [State.tbLane, Queue.headLane] using congrArg List.length (hlanes .p0 (by simp))

theorem exec_rbFree (h : s.rb.present = true) :
    exec .rbFree s = .next ({ s with rb := Queue.absent }.respond .ok 0 []) :=
  if_neg (by simp [h])

theorem exec_rbLen (h : s.rb.present = true) :
    exec .rbLen s = .next (s.respond .ok (BitVec.ofNat 16 s.rb.occ) []) :=
  if_neg (by simp [h])

theorem exec_tbFree (h : s.tb.present = true) :
    exec .tbFree s = .next ({ s with tb := Queue.absent }.respond .ok 0 []) :=
  if_neg (by simp [h])

theorem exec_tbLen (h : s.tb.present = true) :
    exec .tbLen s = .next (s.respond .ok (BitVec.ofNat 16 s.tb.occ) []) :=
  if_neg (by simp [h])

end

/-! ### The statements -/

/-- Settles O14: each core's two refusals, and a legal capacity. -/
theorem allocMakesEmptyBuffer : Obligations.AllocMakesEmptyBuffer := by
  intro s cap
  refine ⟨Instr.header_of_imm .rbAlloc rfl rfl (by decide),
    fun hp => exec_rbAlloc_of_error (if_pos hp),
    fun hp hcap => exec_rbAlloc_of_error (rbAllocCore_of_illegal hp (not_capacityLegal hcap)),
    fun hp h0 hmax => ?_, Instr.header_of_imm .tbAlloc rfl rfl (by decide),
    fun hp => exec_tbAlloc_of_error (if_pos hp),
    fun hp hcap => exec_tbAlloc_of_error (tbAllocCore_of_illegal hp (not_capacityLegal hcap)),
    fun hp h0 hmax => ?_⟩
  · have hcap := capacityLegal_of_le h0 hmax
    exact ⟨exec_rbAlloc_of_legal hp hcap, rbHolds_fresh hcap.1 hmax⟩
  · have hcap := capacityLegal_of_le h0 hmax
    exact ⟨exec_tbAlloc_of_legal hp hcap, tbHolds_fresh hcap.1 hmax⟩

/-- Settles O15: every one of the commands begins with its buffer's check. -/
theorem absentBuffersRefuse : Obligations.AbsentBuffersRefuse :=
  fun _ _ => ⟨exec_rb_absent, exec_tb_absent⟩

/-- Settles O16: behind the check each command is one assignment or none, and a buffer's list of
queued words is as long as its occupancy. -/
theorem bufferFreeAndLen : Obligations.BufferFreeAndLen := by
  intro s
  exact ⟨rfl, rfl, fun h => ⟨exec_rb_absent h (by decide), exec_rb_absent h (by decide)⟩,
    fun h => ⟨exec_rbFree h, exec_rbLen h⟩, fun _ => rbHolds_occ,
    rfl, rfl, fun h => ⟨exec_tb_absent h (by decide), exec_tb_absent h (by decide)⟩,
    fun h => ⟨exec_tbFree h, exec_tbLen h⟩, fun _ => tbHolds_occ⟩

end Sys2Proof.Machine

/-! ## What RB holds after each of its commands (41_ring_buffer.md R180, R186 to R189) -/

namespace Sys2Proof.Machine

/-! ### Where the queued words stand -/

section
variable {q : Queue} {capMax : Nat}

theorem Queue.slot_adv_add (q : Queue) (x k j : Nat) :
    q.slot (q.adv x k + j) = q.slot (x + k + j) := by
  have h := Queue.slot_adv q x k
  simp only [Queue.slot] at h ⊢
  rw [Nat.add_mod, h, ← Nat.add_mod]

theorem Queue.adv_adv (q : Queue) (x j k : Nat) : q.adv (q.adv x j) k = q.adv x (j + k) := by
  simp [Queue.adv, Nat.add_assoc]

theorem Queue.take_headSlots {k n : Nat} (h : k ≤ n) :
    (q.headSlots n).take k = q.headSlots k := by
  simp [Queue.headSlots, ← List.map_take, List.take_range, Nat.min_eq_left h]

/-- The slot of the next push holds no queued word (41_ring_buffer.md R182). -/
theorem Queue.slot_w_notMem_headSlots (h : q.legal capMax) (hroom : q.occ < q.cap) :
    q.slot q.w ∉ q.headSlots q.occ := by
  rw [Queue.slot_w h]
  simp only [Queue.headSlots, List.mem_map, List.mem_range, not_exists, not_and]
  intro j hj heq
  exact absurd (Queue.slot_inj (lt_trans hj hroom) hroom heq) hj.ne

end

/-! ### Pushes and pops as operations on the state -/

section
variable {s : State} {ws : List Word}

/-- RB after a word that fits has been pushed (41_ring_buffer.md R186). -/
def State.rbPushed (v : Word) (s : State) : State :=
  { s with rbm := s.rbm.insert (s.rb.slot s.rb.w) v, rb := s.rb.pushed }

/-- RB after words that fit have been pushed one after the other (41_ring_buffer.md R189). -/
def State.rbPushedAll : List Word → State → State
  | [], s => s
  | v :: vs, s => State.rbPushedAll vs (s.rbPushed v)

/-- RB after the k oldest words have been taken (41_ring_buffer.md R187, R188). -/
def State.rbPopped (k : Nat) (s : State) : State := { s with rb := s.rb.popped k }

theorem rbHolds_rbPushed (h : s.rbHolds ws) (hroom : ws.length < s.rb.cap) (v : Word) :
    (s.rbPushed v).rbHolds (ws ++ [v]) := by
  have hocc : s.rb.occ < s.rb.cap := (rbHolds_occ h).trans_lt hroom
  obtain ⟨hp, hl, hcontents⟩ := h
  refine ⟨hp, Queue.legal_pushed hl hocc, ?_⟩
  have hold : (s.rb.headSlots s.rb.occ).map (s.rbm.insert (s.rb.slot s.rb.w) v).lookup =
      ws.map some := by
    rw [← hcontents, State.rbContents]
    refine List.map_congr_left fun a ha => Memory.lookup_insert_of_ne _ _ ?_
    rintro rfl
    exact Queue.slot_w_notMem_headSlots hl hocc ha
  rw [State.rbContents, State.rbPushed, Queue.headSlots_pushed hl hocc, List.map_append, hold]
  simp

/-- The backing words of the k oldest words of RB. -/
theorem lookup_headSlots (h : s.rbHolds ws) {k : Nat} (hk : k ≤ ws.length) :
    (s.rb.headSlots k).map s.rbm.lookup = (ws.take k).map some := by
  have hocc := rbHolds_occ h
  obtain ⟨-, -, hcontents⟩ := h
  rw [← Queue.take_headSlots (hocc ▸ hk), List.map_take, List.map_take, ← hcontents,
    State.rbContents]

theorem rbHolds_rbPopped (h : s.rbHolds ws) {k : Nat} (hk : k ≤ ws.length) :
    (s.rbPopped k).rbHolds (ws.drop k) := by
  have hocc : k ≤ s.rb.occ := (rbHolds_occ h).symm ▸ hk
  obtain ⟨hp, hl, hcontents⟩ := h
  refine ⟨hp, Queue.legal_popped hl hocc, ?_⟩
  rw [State.rbContents, State.rbPopped, Queue.occ_popped hl hocc, Queue.headSlots_popped,
    Nat.add_sub_cancel' hocc, List.map_drop, List.map_drop, ← hcontents, State.rbContents]

theorem rb_slot_lt_rbmSize (h : s.rbHolds ws) (x : Nat) : s.rb.slot x < s.rbmSize := by
  obtain ⟨-, ⟨hpos, hmax, -⟩, -⟩ := h
  exact (Queue.slot_lt hpos x).trans_le hmax

theorem rbHolds_length_le (h : s.rbHolds ws) : ws.length ≤ s.rb.cap := by
  rw [← rbHolds_occ h]
  obtain ⟨-, ⟨-, -, -, -, hfits⟩, -⟩ := h
  exact hfits

/-! ### What each core answers -/

theorem rbPushCore_of_room (h : s.rbHolds ws) (hroom : ws.length < s.rb.cap) (v : Word) :
    rbPushCore v s = .ok (some (s.rbPushed v)) := by
  refine rbPushCore_eq_some.mpr ⟨h.1, ?_, rb_slot_lt_rbmSize h _, rfl⟩
  rw [Queue.isFull, rbHolds_occ h]
  exact hroom.ne

theorem rbPushCore_of_full (h : s.rbHolds ws) (hfull : ws.length = s.rb.cap) (v : Word) :
    rbPushCore v s = .ok none :=
  rbPushCore_eq_none.mpr ⟨h.1, (rbHolds_occ h).trans hfull⟩

theorem rbPopCore_of_nil (h : s.rbHolds []) : rbPopCore s = .ok none := by
  have hocc := rbHolds_occ h
  obtain ⟨hp, hl, -⟩ := h
  exact rbPopCore_eq_none.mpr ⟨hp, (Queue.isEmpty_iff hl).mpr hocc⟩

theorem rbPopCore_of_cons {v : Word} (h : s.rbHolds (v :: ws)) :
    rbPopCore s = .ok (some (v, s.rbPopped 1)) := by
  have hocc := rbHolds_occ h
  have ⟨hp, hl, _⟩ := h
  have hhead : s.rbm.lookup (s.rb.slot s.rb.r) = some v := by
    simpa [Queue.headSlots] using lookup_headSlots h (k := 1) (by simp)
  refine rbPopCore_eq_some.mpr ⟨hp, fun hempty => ?_, rb_slot_lt_rbmSize h _, hhead, rfl⟩
  exact absurd (hocc.symm.trans ((Queue.isEmpty_iff hl).mp hempty)) (by simp)

theorem rbReadBulkCore_of_holds (h : s.rbHolds ws) (n : Nat) :
    rbReadBulkCore n s =
      .ok (ws.take (min ws.length n), s.rbPopped (min ws.length n)) := by
  refine rbReadBulkCore_eq_ok.mpr ⟨h.1, ?_, ?_, ?_⟩
  · simp only [Queue.headSlots, List.forall_mem_map]
    exact fun j _ => rb_slot_lt_rbmSize h _
  · rw [rbHolds_occ h]
    exact lookup_headSlots h (Nat.min_le_left _ _)
  · rw [rbHolds_occ h]
    rfl

/-- A bulk write pushes the words that fit and drops the rest (41_ring_buffer.md R189). -/
theorem rbWriteBulkCore_of_holds (h : s.rbHolds ws) (words : List Word) :
    rbWriteBulkCore words s =
      .ok (min words.length (s.rb.cap - ws.length),
        s.rbPushedAll (words.take (min words.length (s.rb.cap - ws.length)))) := by
  induction words generalizing s ws with
  | nil =>
    rw [rbWriteBulkCore, if_neg (by simp [h.1])]
    simp [State.rbPushedAll]
  | cons v vs ih =>
    rcases (rbHolds_length_le h).eq_or_lt with hfull | hroom
    · rw [rbWriteBulkCore, rbPushCore_of_full h hfull]
      simp [hfull, State.rbPushedAll]
    · have hk : min (v :: vs).length (s.rb.cap - ws.length) =
          min vs.length (s.rb.cap - (ws ++ [v]).length) + 1 := by
        simp only [List.length_cons, List.length_append, List.length_nil]
        omega
      have htail := ih (rbHolds_rbPushed h hroom v)
      rw [hk, List.take_succ_cons, State.rbPushedAll, rbWriteBulkCore, rbPushCore_of_room h hroom]
      simp only [htail]
      rfl

/-! ### Several pushes -/

theorem rbHolds_rbPushedAll {vs : List Word} (h : s.rbHolds ws)
    (hroom : ws.length + vs.length ≤ s.rb.cap) : (s.rbPushedAll vs).rbHolds (ws ++ vs) := by
  induction vs generalizing s ws with
  | nil => simpa [State.rbPushedAll] using h
  | cons v vs ih =>
    rw [List.length_cons] at hroom
    have hpush := rbHolds_rbPushed h (by omega) v
    have hrest := ih hpush (by simp [State.rbPushed]; omega)
    rwa [List.append_assoc] at hrest

/-- The words of a bulk write that fit. -/
theorem rbHolds_rbPushedAll_take (h : s.rbHolds ws) (words : List Word) :
    (s.rbPushedAll (words.take (min words.length (s.rb.cap - ws.length)))).rbHolds
      (ws ++ words.take (min words.length (s.rb.cap - ws.length))) := by
  have hfits := rbHolds_length_le h
  exact rbHolds_rbPushedAll h (by rw [List.length_take]; omega)

/-- A push touches RB and RBM alone. -/
theorem rbPushedAll_frame (vs : List Word) (s : State) :
    { s.rbPushedAll vs with rb := s.rb, rbm := s.rbm } = s := by
  induction vs generalizing s with
  | nil => rfl
  | cons v vs ih =>
    exact (congrArg (fun u : State => { u with rb := s.rb, rbm := s.rbm }) (ih (s.rbPushed v)) :)

theorem rbPushedAll_cfg (vs : List Word) (s : State) : (s.rbPushedAll vs).cfg = s.cfg :=
  (congrArg State.cfg (rbPushedAll_frame vs s) :)

theorem rbPushedAll_rb (hw : s.rb.w < 2 * s.rb.cap) (vs : List Word) :
    (s.rbPushedAll vs).rb = { s.rb with w := s.rb.adv s.rb.w vs.length } := by
  induction vs generalizing s with
  | nil =>
    rw [State.rbPushedAll, List.length_nil, Queue.adv, Nat.add_zero, Nat.mod_eq_of_lt hw]
  | cons v vs ih =>
    have hw' : (s.rbPushed v).rb.w < 2 * (s.rbPushed v).rb.cap :=
      Nat.mod_lt _ (Nat.zero_lt_of_lt hw)
    rw [State.rbPushedAll, ih hw', List.length_cons, Nat.add_comm, ← Queue.adv_adv]
    rfl

/-- Pushes leave every word alone but those at the slots from `slot(w)` on (41_ring_buffer.md
R186, R189). -/
theorem rbPushedAll_lookup {a : Nat} (vs : List Word)
    (ha : ∀ j < vs.length, a ≠ s.rb.slot (s.rb.w + j)) :
    (s.rbPushedAll vs).rbm.lookup a = s.rbm.lookup a := by
  induction vs generalizing s with
  | nil => rfl
  | cons v vs ih =>
    have hrest : ∀ j < vs.length, a ≠ (s.rbPushed v).rb.slot ((s.rbPushed v).rb.w + j) := by
      intro j hj
      have hslot := Queue.slot_adv_add s.rb s.rb.w 1 j
      rw [Nat.add_assoc, Nat.add_comm 1 j] at hslot
      exact hslot.symm ▸ ha (j + 1) (Nat.succ_lt_succ hj)
    exact (ih hrest).trans (Memory.lookup_insert_of_ne _ _ (ha 0 (Nat.succ_pos _)))

/-! ### The commands on a present RB -/

theorem exec_rbPush_of_room (h : s.rbHolds ws) (hroom : ws.length < s.rb.cap) (v : Word) :
    exec (.rbPush v) s = .next ((s.rbPushed v).respond .ok 0 []) := by
  rw [exec, execRbPush, if_neg (by simp [h.1]), rbPushCore_of_room h hroom]
  rfl

theorem exec_rbPush_of_full (h : s.rbHolds ws) (hfull : ws.length = s.rb.cap) (v : Word) :
    exec (.rbPush v) s = .next (s.respond .full 0 []) := by
  rw [exec, execRbPush, if_neg (by simp [h.1]), rbPushCore_of_full h hfull]
  rfl

theorem exec_rbPop_of_nil (h : s.rbHolds []) : exec .rbPop s = .next (s.respond .empty 0 []) := by
  rw [exec, execRbPop, if_neg (by simp [h.1]), rbPopCore_of_nil h]
  rfl

theorem exec_rbPop_of_cons {v : Word} (h : s.rbHolds (v :: ws)) :
    exec .rbPop s = .next ((s.rbPopped 1).respond .ok v []) := by
  rw [exec, execRbPop, if_neg (by simp [h.1]), rbPopCore_of_cons h]

theorem exec_rbReadBulk_of_holds (h : s.rbHolds ws) (n : Word) :
    exec (.rbReadBulk n) s =
      .next ((s.rbPopped (min ws.length n.toNat)).respond .ok
        (BitVec.ofNat 16 (min ws.length n.toNat)) (ws.take (min ws.length n.toNat))) := by
  rw [exec, execRbReadBulk, if_neg (by simp [h.1]), rbReadBulkCore_of_holds h]
  simp [countValue]

theorem exec_rbWriteBulk_of_holds (h : s.rbHolds ws) (words : List Word) :
    exec (.rbWriteBulk words) s =
      .next ((s.rbPushedAll (words.take (min words.length (s.rb.cap - ws.length)))).respond .ok
        (BitVec.ofNat 16 (min words.length (s.rb.cap - ws.length))) []) := by
  rw [exec, execRbWriteBulk, if_neg (by simp [h.1]), rbWriteBulkCore_of_holds h]
  rfl

end

/-! ### The statements -/

/-- Settles O17: a full RB refuses, and a push that fits is `rbPushed`. -/
theorem rbPushAppends : Obligations.RbPushAppends := by
  intro s v
  refine ⟨Instr.header_of_imm .rbPush rfl rfl (by decide),
    fun h => exec_rb_absent h (by simp [Instr.op]),
    fun ws h hfull => exec_rbPush_of_full h hfull v, fun ws h hroom => ?_⟩
  exact ⟨_, exec_rbPush_of_room h hroom v, rbHolds_rbPushed h hroom v, rfl,
    Memory.lookup_insert_self _ _ _, fun a ha => Memory.lookup_insert_of_ne _ _ ha, rfl⟩

/-- Settles O18: an empty RB refuses, and a pop of the oldest word is `rbPopped`. -/
theorem rbPopTakesOldest : Obligations.RbPopTakesOldest := by
  intro s
  refine ⟨rfl, fun h => exec_rb_absent h (by decide), exec_rbPop_of_nil, fun v ws h => ?_⟩
  exact ⟨exec_rbPop_of_cons h, rbHolds_rbPopped h (k := 1) (by simp)⟩

/-- Settles O19: a bulk read is `rbPopped` of as many words as are asked for and queued. -/
theorem rbReadBulkTakesOldest : Obligations.RbReadBulkTakesOldest := by
  intro s n
  refine ⟨Instr.header_of_imm .rbReadBulk rfl rfl (by decide),
    fun h => exec_rb_absent h (by simp [Instr.op]), fun ws h => ?_⟩
  exact ⟨exec_rbReadBulk_of_holds h n, rbHolds_rbPopped h (Nat.min_le_left _ _)⟩

/-- Settles O20: a bulk write is `rbPushedAll` of the words that fit. -/
theorem rbWriteBulkAppends : Obligations.RbWriteBulkAppends := by
  intro s words
  refine ⟨fun hlen => ⟨?_, rfl⟩, fun h => exec_rb_absent h (by simp [Instr.op]), fun ws h => ?_⟩
  · rw [Instr.header_of_imm .rbWriteBulk rfl rfl (base := 0x15000000) (by decide)]
    congr 1
    apply BitVec.eq_of_toNat_eq
    simp only [Instr.imm, BitVec.toNat_setWidth, BitVec.toNat_ofNat]
    omega
  intro k
  have ⟨_, ⟨_, _, _, hw, _⟩, _⟩ := h
  have hlen : (words.take k).length = k := by simp [k]
  refine ⟨_, exec_rbWriteBulk_of_holds h words, rbHolds_rbPushedAll_take h words, ?_,
    fun a ha => rbPushedAll_lookup _ fun j hj heq => ha ?_,
    congrArg (State.respond .ok (BitVec.ofNat 16 k) []) (rbPushedAll_frame (words.take k) s)⟩
  · exact (rbPushedAll_rb hw (words.take k)).trans (by rw [hlen]; rfl)
  · exact List.mem_map.mpr ⟨j, List.mem_range.mpr (hj.trans_eq hlen), heq.symm⟩

end Sys2Proof.Machine

/-! ## Runs of RB commands (41_ring_buffer.md R191, R192) -/

namespace Sys2Proof.Machine

section
variable {s t u : State} {ws : List Word}

/-! ### Runs -/

theorem runCommands_cons {i : Instr} {is : List Instr} {r : Response} {rs : List Response}
    (hi : exec i s = .next t) (hr : t.resp = some r) (his : runCommands is t = some (rs, u)) :
    runCommands (i :: is) s = some (r :: rs, u) := by
  rw [runCommands, hi]
  simp only [hr, his]

theorem runCommands_append {is js : List Instr} {rs rs' : List Response}
    (his : runCommands is s = some (rs, t)) (hjs : runCommands js t = some (rs', u)) :
    runCommands (is ++ js) s = some (rs ++ rs', u) := by
  induction is generalizing s rs with
  | nil =>
    cases his
    exact hjs
  | cons i is ih =>
    rw [runCommands] at his
    split at his
    · rename_i v hv
      split at his
      · rename_i r rs1 t1 hr hrun
        cases his
        exact runCommands_cons hv hr (ih hrun)
      · cases his
    · cases his
    · cases his

/-! ### First in, first out -/

/-- The RB commands between an allocation and a release. -/
abbrev rbFifoOps : List Op := [.rbPush, .rbPop, .rbReadBulk, .rbWriteBulk, .rbLen]

/-- What one RB command does to the queue: the words accepted join its end, the words returned leave
its front (41_ring_buffer.md R191). -/
theorem exec_rb_fifo {i : Instr} (hwf : s.cfg.wf) (h : s.rbHolds ws) (hi : i.op ∈ rbFifoOps) :
    ∃ t r ws', exec i s = .next t ∧ t.resp = some r ∧ t.cfg = s.cfg ∧ t.rbHolds ws' ∧
      ws ++ rbAccepted i r = rbReturned i r ++ ws' := by
  cases i with
  | rbPush v =>
    rcases (rbHolds_length_le h).eq_or_lt with hfull | hroom
    · exact ⟨_, _, ws, exec_rbPush_of_full h hfull v, rfl, rfl, h, by simp [rbAccepted, rbReturned]⟩
    · exact ⟨_, _, _, exec_rbPush_of_room h hroom v, rfl, rfl, rbHolds_rbPushed h hroom v,
        by simp [rbAccepted, rbReturned]⟩
  | rbPop =>
    cases ws with
    | nil => exact ⟨_, _, [], exec_rbPop_of_nil h, rfl, rfl, h, by simp [rbAccepted, rbReturned]⟩
    | cons v ws =>
      exact ⟨_, _, ws, exec_rbPop_of_cons h, rfl, rfl, rbHolds_rbPopped h (k := 1) (by simp),
        by simp [rbAccepted, rbReturned]⟩
  | rbReadBulk n =>
    exact ⟨_, _, _, exec_rbReadBulk_of_holds h n, rfl, rfl,
      rbHolds_rbPopped h (Nat.min_le_left _ _), by simp [rbAccepted, rbReturned]⟩
  | rbWriteBulk words =>
    have ⟨_, hmax, _⟩ := hwf
    have ⟨_, ⟨_, hcap, _⟩, _⟩ := h
    refine ⟨_, _, _, exec_rbWriteBulk_of_holds h words, rfl, rbPushedAll_cfg _ s,
      rbHolds_rbPushedAll_take h words, ?_⟩
    simp only [rbAccepted, rbReturned, List.nil_append, BitVec.toNat_ofNat]
    rw [Nat.mod_eq_of_lt (by omega)]
  | rbLen =>
    exact ⟨_, _, ws, exec_rbLen h.1, rfl, rfl, h, by simp [rbAccepted, rbReturned]⟩
  | _ => simp [Instr.op] at hi

/-- Over any RB commands, what was queued and what is accepted is what is returned and what is left
queued, in one order. -/
theorem runCommands_rb_fifo {is : List Instr} (hwf : s.cfg.wf) (h : s.rbHolds ws)
    (hops : ∀ i ∈ is, i.op ∈ rbFifoOps) :
    ∃ rs t rest, runCommands is s = some (rs, t) ∧ t.rbHolds rest ∧
      ws ++ (List.zipWith rbAccepted is rs).flatten =
        (List.zipWith rbReturned is rs).flatten ++ rest := by
  induction is generalizing s ws with
  | nil => exact ⟨[], s, ws, rfl, h, by simp⟩
  | cons i is ih =>
    obtain ⟨hi, his⟩ := List.forall_mem_cons.mp hops
    obtain ⟨t, r, ws', hexec, hresp, hcfg, hholds, hfirst⟩ := exec_rb_fifo hwf h hi
    obtain ⟨rs, u, rest, hrun, hrest, hlater⟩ := ih (hcfg ▸ hwf) hholds his
    refine ⟨r :: rs, u, rest, runCommands_cons hexec hresp hrun, hrest, ?_⟩
    simp only [List.zipWith_cons_cons, List.flatten_cons, List.append_assoc]
    rw [← List.append_assoc ws, hfirst, List.append_assoc, hlater]

/-- Settles O21: the run from the empty queue. -/
theorem rbIsFifo : Obligations.RbIsFifo :=
  fun _ _ hwf h hops => runCommands_rb_fifo hwf h hops

/-! ### The capacity law -/

theorem runCommands_pushes_of_room {vs : List Word} (h : s.rbHolds ws)
    (hroom : ws.length + vs.length ≤ s.rb.cap) :
    ∃ t, runCommands (vs.map Instr.rbPush) s =
        some (List.replicate vs.length ⟨.ok, 0, []⟩, t) ∧
      t.rbHolds (ws ++ vs) ∧ t.rb.cap = s.rb.cap := by
  induction vs generalizing s ws with
  | nil => exact ⟨s, rfl, by simpa using h, rfl⟩
  | cons v vs ih =>
    rw [List.length_cons] at hroom
    have hpush := rbHolds_rbPushed h (by omega) v
    obtain ⟨t, hrun, hholds, hcap⟩ := ih (s := (s.rbPushed v).respond .ok 0 []) hpush
      (by simp [State.rbPushed]; omega)
    exact ⟨t, runCommands_cons (exec_rbPush_of_room h (by omega) v) rfl hrun,
      by simpa using hholds, hcap⟩

theorem runCommands_pushes_of_full (h : s.rbHolds ws) (hfull : ws.length = s.rb.cap)
    (vs : List Word) :
    ∃ t, runCommands (vs.map Instr.rbPush) s =
      some (List.replicate vs.length ⟨.full, 0, []⟩, t) ∧ t.rbHolds ws := by
  induction vs generalizing s with
  | nil => exact ⟨s, rfl, h⟩
  | cons v vs ih =>
    obtain ⟨t, hrun, hholds⟩ := ih (s := s.respond .full 0 []) h hfull
    exact ⟨t, runCommands_cons (exec_rbPush_of_full h hfull v) rfl hrun, hholds⟩

theorem runCommands_pops (h : s.rbHolds ws) :
    ∃ t, runCommands (List.replicate ws.length .rbPop) s =
      some (ws.map fun v => ⟨.ok, v, []⟩, t) ∧ t.rbHolds [] := by
  induction ws generalizing s with
  | nil => exact ⟨s, rfl, h⟩
  | cons v ws ih =>
    obtain ⟨t, hrun, hholds⟩ := ih (s := (s.rbPopped 1).respond .ok v [])
      (rbHolds_rbPopped h (k := 1) (by simp))
    exact ⟨t, runCommands_cons (exec_rbPop_of_cons h) rfl hrun, hholds⟩

/-- Settles O22: C pushes with room, k on a full RB, C pops, and one on an empty RB. -/
theorem rbCapacityLaw : Obligations.RbCapacityLaw := by
  intro s first more h hlen
  obtain ⟨t, hfirst, ht, hcap⟩ := runCommands_pushes_of_room (vs := first) h (by simp [hlen])
  obtain ⟨u, hmore, hu⟩ := runCommands_pushes_of_full ht (hlen.trans hcap.symm) more
  obtain ⟨v, hpops, hv⟩ := runCommands_pops hu
  have hlast := runCommands_cons (is := []) (exec_rbPop_of_nil hv) rfl rfl
  refine ⟨v.respond .empty 0 [], ?_⟩
  rw [List.map_append, List.replicate_succ', ← hlen, List.append_assoc, List.append_assoc,
    List.append_assoc]
  exact runCommands_append hfirst
    (runCommands_append hmore (runCommands_append hpops hlast))

end

end Sys2Proof.Machine

/-! ## What TB holds after each of its commands (42_transfer_buffer.md R210, R216 to R219)

A push writes one word at the same cursor value of every lane and a pop moves the one read cursor,
so the four lanes hold one list of tuples. -/

namespace Sys2Proof

/-- The header of a command without operands, or with all of them in the payload
(30_encoding.md R111, R112). -/
theorem Instr.header_of_bare {i : Instr} {base : BitVec 32} (o : Op) (ho : i.op = o)
    (ha2 : i.a2 = 0) (himm : i.imm = 0) (hbase : o.code.setWidth 32 <<< 24 = base) :
    i.header = base := by
  rw [Instr.header_of_imm o ho ha2 hbase, himm]
  simp

end Sys2Proof

namespace Sys2Proof.Machine

theorem mem_tbLanes (p : PlayerId) : p ∈ tbLanes := by
  cases p <;> simp

/-! ### Where the queued tuples stand -/

section
variable {q : Queue} {capMax : Nat}

theorem Queue.take_headLane (p : PlayerId) {k n : Nat} (h : k ≤ n) :
    (q.headLane p n).take k = q.headLane p k := by
  simp [Queue.headLane, ← List.map_take, List.take_range, Nat.min_eq_left h]

/-- The words of the next push, whatever their lanes, hold no queued word (42_transfer_buffer.md
R210, R211). -/
theorem Queue.laneAddr_w_notMem_headLane (h : q.legal capMax) (hroom : q.occ < q.cap)
    (p p' : PlayerId) : q.laneAddr p' q.w ∉ q.headLane p q.occ := by
  simp only [Queue.headLane, List.mem_map, List.mem_range, not_exists, not_and]
  intro j hj heq
  obtain ⟨-, hslot⟩ := Queue.laneAddr_inj h.1 heq
  exact Queue.slot_w_notMem_headSlots h hroom
    (List.mem_map.mpr ⟨j, List.mem_range.mpr hj, hslot⟩)

end

/-! ### The words written by a push -/

section
variable {q : Queue} {x : Nat} {f : PlayerId → Word} {lanes : List PlayerId} {m : Memory}

/-- A write of the lanes leaves every word alone but theirs. -/
theorem Memory.lookup_writeLanes_of_ne {a : Nat} (ha : ∀ p ∈ lanes, a ≠ q.laneAddr p x) :
    (m.writeLanes q x f lanes).lookup a = m.lookup a := by
  induction lanes generalizing m with
  | nil => rfl
  | cons p ps ih =>
    obtain ⟨hp, hps⟩ := List.forall_mem_cons.mp ha
    exact (ih hps).trans (Memory.lookup_insert_of_ne _ _ hp)

/-- A write of the lanes puts each lane's word at its address: no later lane overwrites it
(42_transfer_buffer.md R211). -/
theorem Memory.lookup_writeLanes_laneAddr (hcap : 1 ≤ q.cap) {p : PlayerId} (hp : p ∈ lanes) :
    (m.writeLanes q x f lanes).lookup (q.laneAddr p x) = some (f p) := by
  induction lanes generalizing m with
  | nil => cases hp
  | cons p' ps ih =>
    by_cases hlater : p ∈ ps
    · exact ih hlater
    · obtain rfl : p = p' := (List.mem_cons.mp hp).resolve_right hlater
      have hkept : ∀ p' ∈ ps, q.laneAddr p x ≠ q.laneAddr p' x := by
        intro p' hp' heq
        obtain ⟨rfl, -⟩ := Queue.laneAddr_inj hcap heq
        exact hlater hp'
      exact (Memory.lookup_writeLanes_of_ne hkept).trans (Memory.lookup_insert_self _ _ _)

end

/-! ### Pushes and pops as operations on the state -/

section
variable {s : State} {ts : List (Four Word)}

/-- TB after a tuple that fits has been pushed (42_transfer_buffer.md R216). -/
def State.tbPushed (v : Four Word) (s : State) : State :=
  { s with tbm := s.tbm.writeLanes s.tb s.tb.w v.get tbLanes, tb := s.tb.pushed }

/-- TB after the k oldest tuples have been taken (42_transfer_buffer.md R217, R219). -/
def State.tbPopped (k : Nat) (s : State) : State := { s with tb := s.tb.popped k }

theorem tbHolds_length_le (h : s.tbHolds ts) : ts.length ≤ s.tb.cap := by
  rw [← tbHolds_occ h]
  obtain ⟨-, ⟨-, -, -, -, hfits⟩, -⟩ := h
  exact hfits

theorem tb_laneAddr_lt_tbmSize (h : s.tbHolds ts) (p : PlayerId) (x : Nat) :
    s.tb.laneAddr p x < s.tbmSize := by
  obtain ⟨-, ⟨hpos, hmax, -⟩, -⟩ := h
  exact (Queue.laneAddr_lt hpos p x).trans_le (Nat.mul_le_mul_left 4 hmax)

/-- The backing words of lane p of the k oldest tuples of TB. -/
theorem lookup_headLane (h : s.tbHolds ts) (p : PlayerId) {k : Nat} (hk : k ≤ ts.length) :
    (s.tb.headLane p k).map s.tbm.lookup = (laneTake p k ts).map some := by
  have hocc := tbHolds_occ h
  obtain ⟨-, -, hlanes⟩ := h
  have hlane := hlanes p (mem_tbLanes p)
  rw [State.tbLane] at hlane
  rw [← Queue.take_headLane p (hocc ▸ hk), List.map_take, hlane]
  simp [laneTake, Function.comp_def]

theorem tbHolds_tbPushed (h : s.tbHolds ts) (hroom : ts.length < s.tb.cap) (v : Four Word) :
    (s.tbPushed v).tbHolds (ts ++ [v]) := by
  have hocc : s.tb.occ < s.tb.cap := (tbHolds_occ h).trans_lt hroom
  obtain ⟨hp, hl, hlanes⟩ := h
  refine ⟨hp, Queue.legal_pushed hl hocc, fun p hpl => ?_⟩
  have hold : (s.tb.headLane p s.tb.occ).map
      (s.tbm.writeLanes s.tb s.tb.w v.get tbLanes).lookup = ts.map fun t => some (t.get p) := by
    rw [← hlanes p hpl, State.tbLane]
    refine List.map_congr_left fun a ha => Memory.lookup_writeLanes_of_ne fun p' _ => ?_
    rintro rfl
    exact Queue.laneAddr_w_notMem_headLane hl hocc p p' ha
  have hnew := Memory.lookup_writeLanes_laneAddr (x := s.tb.w) (f := v.get) (m := s.tbm) hl.1 hpl
  rw [State.tbLane, State.tbPushed, Queue.headLane_pushed hl hocc, List.map_append, hold]
  simp [hnew]

theorem tbHolds_tbPopped (h : s.tbHolds ts) {k : Nat} (hk : k ≤ ts.length) :
    (s.tbPopped k).tbHolds (ts.drop k) := by
  have hocc : k ≤ s.tb.occ := (tbHolds_occ h).symm ▸ hk
  obtain ⟨hp, hl, hlanes⟩ := h
  refine ⟨hp, Queue.legal_popped hl hocc, fun p hpl => ?_⟩
  rw [State.tbLane, State.tbPopped, Queue.occ_popped hl hocc, Queue.headLane_popped,
    Nat.add_sub_cancel' hocc, List.map_drop, List.map_drop, ← hlanes p hpl, State.tbLane]

/-! ### What each core answers -/

theorem tbPushCore_of_room (h : s.tbHolds ts) (hroom : ts.length < s.tb.cap) (v : Four Word) :
    tbPushCore v s = .ok (some (s.tbPushed v)) := by
  have hsize (p : PlayerId) := tb_laneAddr_lt_tbmSize h p s.tb.w
  refine tbPushCore_eq_some.mpr ⟨h.1, ?_, _,
    tbWriteTuple_eq_ok.mpr ⟨⟨hsize .p0, hsize .p1, hsize .p2, hsize .p3⟩, rfl⟩, rfl⟩
  rw [Queue.isFull, tbHolds_occ h]
  exact hroom.ne

theorem tbPushCore_of_full (h : s.tbHolds ts) (hfull : ts.length = s.tb.cap) (v : Four Word) :
    tbPushCore v s = .ok none :=
  tbPushCore_eq_none.mpr ⟨h.1, (tbHolds_occ h).trans hfull⟩

theorem tbPeekCore_of_nil (h : s.tbHolds []) : tbPeekCore s = .ok none := by
  have hocc := tbHolds_occ h
  obtain ⟨hp, hl, -⟩ := h
  exact tbPeekCore_eq_none.mpr ⟨hp, (Queue.isEmpty_iff hl).mpr hocc⟩

theorem tbPeekCore_of_cons {v : Four Word} (h : s.tbHolds (v :: ts)) :
    tbPeekCore s = .ok (some v) := by
  have hocc := tbHolds_occ h
  have ⟨hp, hl, _⟩ := h
  refine tbPeekCore_eq_some.mpr ⟨hp, fun hempty => ?_, tbReadTuple_eq_ok.mpr fun p _ =>
    ⟨tb_laneAddr_lt_tbmSize h p _, ?_⟩⟩
  · exact absurd (hocc.symm.trans ((Queue.isEmpty_iff hl).mp hempty)) (by simp)
  · simpa [Queue.headLane, laneTake] using lookup_headLane h p (k := 1) (by simp)

/-- The counts of a bulk read of TB: as many tuples as the slot asks for and are queued
(42_transfer_buffer.md R219). -/
def tbCounts (l : Four Word) (ts : List (Four Word)) : Four Nat :=
  l.map fun w => min ts.length w.toNat

theorem bulkCounts_of_holds (h : s.tbHolds ts) (l : Four Word) :
    s.tb.bulkCounts (countsOf l) = tbCounts l ts := by
  rw [Queue.bulkCounts, tbHolds_occ h]
  rfl

theorem tbCounts_get_le (l : Four Word) (ts : List (Four Word)) (p : PlayerId) :
    (tbCounts l ts).get p ≤ ts.length := by
  cases p <;> exact Nat.min_le_left _ _

/-- A count of a bulk read is a 16-bit number, as what is asked for is one. -/
theorem tbCounts_get_lt (l : Four Word) (ts : List (Four Word)) (p : PlayerId) :
    (tbCounts l ts).get p < 2 ^ 16 := by
  cases p <;> exact (Nat.min_le_right _ _).trans_lt (BitVec.isLt _)

theorem Four.least_le_get (n : Four Nat) (p : PlayerId) : n.least ≤ n.get p := by
  cases p <;> simp only [Four.least, Four.get] <;> omega

theorem least_tbCounts_le (l : Four Word) (ts : List (Four Word)) :
    (tbCounts l ts).least ≤ ts.length :=
  (Four.least_le_get _ .p0).trans (tbCounts_get_le l ts .p0)

theorem lanesTake_get (n : Four Nat) (ts : List (Four Word)) (p : PlayerId) :
    (lanesTake n ts).get p = laneTake p (n.get p) ts := by
  cases p <;> rfl

theorem tbReadBulkCore_of_holds (h : s.tbHolds ts) (l : Four Word) :
    tbReadBulkCore (countsOf l) s =
      .ok (tbCounts l ts, lanesTake (tbCounts l ts) ts, s.tbPopped (tbCounts l ts).least) := by
  have hcounts := bulkCounts_of_holds h l
  refine tbReadBulkCore_eq_ok.mpr ⟨h.1, hcounts.symm, fun p _ => ?_, hcounts ▸ rfl⟩
  rw [hcounts, lanesTake_get, Memory.readAll_eq_ok]
  refine ⟨?_, lookup_headLane h p (tbCounts_get_le l ts p)⟩
  simp only [Queue.headLane, List.forall_mem_map]
  exact fun j _ => tb_laneAddr_lt_tbmSize h p _

/-! ### The commands on a present TB -/

theorem exec_tbPush_of_room (h : s.tbHolds ts) (hroom : ts.length < s.tb.cap) (v : Four Word) :
    exec (.tbPush v) s = .next ((s.tbPushed v).respond .ok 0 []) := by
  rw [exec, execTbPush, if_neg (by simp [h.1]), tbPushCore_of_room h hroom]
  rfl

theorem exec_tbPush_of_full (h : s.tbHolds ts) (hfull : ts.length = s.tb.cap) (v : Four Word) :
    exec (.tbPush v) s = .next (s.respond .full 0 []) := by
  rw [exec, execTbPush, if_neg (by simp [h.1]), tbPushCore_of_full h hfull]
  rfl

theorem exec_tbPop_of_nil (h : s.tbHolds []) : exec .tbPop s = .next (s.respond .empty 0 []) := by
  rw [exec, execTbPop, if_neg (by simp [h.1]), tbPopCore_eq_none.mpr (tbPeekCore_of_nil h)]
  rfl

theorem exec_tbPop_of_cons {v : Four Word} (h : s.tbHolds (v :: ts)) :
    exec .tbPop s = .next ((s.tbPopped 1).respond .ok 0 v.toList) := by
  rw [exec, execTbPop, if_neg (by simp [h.1]),
    tbPopCore_eq_some.mpr ⟨tbPeekCore_of_cons h, rfl⟩]
  rfl

theorem exec_tbPeek_of_nil (h : s.tbHolds []) :
    exec .tbPeek s = .next (s.respond .empty 0 []) := by
  rw [exec, execTbPeek, if_neg (by simp [h.1]), tbPeekCore_of_nil h]
  rfl

theorem exec_tbPeek_of_cons {v : Four Word} (h : s.tbHolds (v :: ts)) :
    exec .tbPeek s = .next (s.respond .ok 0 v.toList) := by
  rw [exec, execTbPeek, if_neg (by simp [h.1]), tbPeekCore_of_cons h]

theorem exec_tbReadBulk_of_holds (h : s.tbHolds ts) (l : Four Word) :
    exec (.tbReadBulk l) s =
      .next ((s.tbPopped (tbCounts l ts).least).respond .ok 0
        (bulkWords (tbCounts l ts) (lanesTake (tbCounts l ts) ts))) := by
  rw [exec, execTbReadBulk, if_neg (by simp [h.1]), tbReadBulkCore_of_holds h]

end

/-! ### The statements -/

/-- Settles O23: a full TB refuses, and a push that fits is `tbPushed`. -/
theorem tbPushAppends : Obligations.TbPushAppends := by
  intro s v
  refine ⟨Instr.header_of_bare .tbPush rfl rfl rfl (by decide), rfl,
    fun h => exec_tb_absent h (by simp [Instr.op]),
    fun ts h hfull => exec_tbPush_of_full h hfull v, fun ts h hroom => ?_⟩
  have ⟨_, ⟨hcap, _⟩, _⟩ := h
  exact ⟨_, exec_tbPush_of_room h hroom v, tbHolds_tbPushed h hroom v, rfl,
    fun p => Memory.lookup_writeLanes_laneAddr hcap (mem_tbLanes p),
    fun a ha => Memory.lookup_writeLanes_of_ne fun p _ => ha p, rfl⟩

/-- Settles O24: an empty TB refuses both, a pop of the oldest tuple is `tbPopped`, and a peek is no
more than its answer. -/
theorem tbPopAndPeek : Obligations.TbPopAndPeek := by
  intro s
  refine ⟨rfl, rfl, fun h => ⟨exec_tb_absent h (by decide), exec_tb_absent h (by decide)⟩,
    fun h => ⟨exec_tbPop_of_nil h, exec_tbPeek_of_nil h⟩, fun v ts h => ?_⟩
  exact ⟨exec_tbPop_of_cons h, tbHolds_tbPopped h (k := 1) (by simp), exec_tbPeek_of_cons h⟩

/-- Settles O25: a bulk read is `tbPopped` of the least of the counts. -/
theorem tbReadBulkAdvancesByLeast : Obligations.TbReadBulkAdvancesByLeast := by
  intro s l
  refine ⟨Instr.header_of_bare .tbReadBulk rfl rfl rfl (by decide), rfl,
    fun h => exec_tb_absent h (by simp [Instr.op]), fun ts h => ?_⟩
  exact ⟨exec_tbReadBulk_of_holds h l, tbHolds_tbPopped h (least_tbCounts_le l ts)⟩

end Sys2Proof.Machine

/-! ## Runs of TB commands (42_transfer_buffer.md R221 to R223) -/

namespace Sys2Proof.Machine

/-! ### A four-slot response read back (30_encoding.md R115) -/

theorem toNat_countValue {k : Nat} (h : k < 2 ^ 16) : (countValue k).toNat = k := by
  rw [countValue, BitVec.toNat_ofNat, Nat.mod_eq_of_lt h]

/-- The counts of a response cut its data into the four slots' words. -/
theorem bulkLane_bulkWords {n : Four Nat} {out : Four (List Word)}
    (hcount : ∀ p, n.get p < 2 ^ 16) (hlen : ∀ p, (out.get p).length = n.get p) (p : PlayerId) :
    bulkLane p (bulkWords n out) = out.get p := by
  have c0 : (countValue n.l0).toNat = out.l0.length :=
    (toNat_countValue (hcount .p0)).trans (hlen .p0).symm
  have c1 : (countValue n.l1).toNat = out.l1.length :=
    (toNat_countValue (hcount .p1)).trans (hlen .p1).symm
  have c2 : (countValue n.l2).toNat = out.l2.length :=
    (toNat_countValue (hcount .p2)).trans (hlen .p2).symm
  have c3 : (countValue n.l3).toNat = out.l3.length :=
    (toNat_countValue (hcount .p3)).trans (hlen .p3).symm
  cases p <;>
    simp [bulkLane, bulkWords, Four.toList, Four.map, Four.get, c0, c1, c2, c3, ← List.drop_drop]

theorem bulkConsumed_bulkWords {n : Four Nat} (out : Four (List Word))
    (hcount : ∀ p, n.get p < 2 ^ 16) : bulkConsumed (bulkWords n out) = n.least := by
  have c0 := toNat_countValue (hcount .p0)
  have c1 := toNat_countValue (hcount .p1)
  have c2 := toNat_countValue (hcount .p2)
  have c3 := toNat_countValue (hcount .p3)
  simp only [Four.get] at c0 c1 c2 c3
  simp [bulkConsumed, bulkWords, Four.toList, Four.map, Four.least, c0, c1, c2, c3]

section
variable {s : State} {ts : List (Four Word)}

/-- What a bulk read consumes of lane p is lane p of as many tuples as the least count says: what a
slot gets beyond them stays queued and is delivered again (42_transfer_buffer.md R219, R222). -/
theorem tbConsumed_tbReadBulk (p : PlayerId) (l : Four Word) (ts : List (Four Word))
    (st : Status) (v : Word) :
    tbConsumed p (.tbReadBulk l)
        ⟨st, v, bulkWords (tbCounts l ts) (lanesTake (tbCounts l ts) ts)⟩ =
      (ts.take (tbCounts l ts).least).map fun t => t.get p := by
  have hcount := tbCounts_get_lt l ts
  have hlen (p' : PlayerId) :
      ((lanesTake (tbCounts l ts) ts).get p').length = (tbCounts l ts).get p' := by
    rw [lanesTake_get, laneTake, List.length_map, List.length_take,
      Nat.min_eq_left (tbCounts_get_le l ts p')]
  rw [tbConsumed, bulkLane_bulkWords hcount hlen, bulkConsumed_bulkWords _ hcount, lanesTake_get,
    laneTake, ← List.map_take, List.take_take, Nat.min_eq_left (Four.least_le_get _ p)]

/-! ### First in, first out, lane by lane -/

/-- The TB commands between an allocation and a release. -/
abbrev tbFifoOps : List Op := [.tbPush, .tbPop, .tbPeek, .tbReadBulk, .tbLen]

/-- What one TB command does to the queue: in every lane, the words of the tuples accepted join its
end and the words consumed leave its front (42_transfer_buffer.md R221, R222). -/
theorem exec_tb_fifo {i : Instr} (h : s.tbHolds ts) (hi : i.op ∈ tbFifoOps) :
    ∃ t r ts', exec i s = .next t ∧ t.resp = some r ∧ t.tbHolds ts' ∧
      ∀ p : PlayerId, (ts ++ tbAccepted i r).map (fun v => v.get p) =
        tbConsumed p i r ++ ts'.map fun v => v.get p := by
  cases i with
  | tbPush v =>
    rcases (tbHolds_length_le h).eq_or_lt with hfull | hroom
    · exact ⟨_, _, ts, exec_tbPush_of_full h hfull v, rfl, h, by simp [tbAccepted, tbConsumed]⟩
    · exact ⟨_, _, _, exec_tbPush_of_room h hroom v, rfl, tbHolds_tbPushed h hroom v,
        by simp [tbAccepted, tbConsumed]⟩
  | tbPop =>
    cases ts with
    | nil => exact ⟨_, _, [], exec_tbPop_of_nil h, rfl, h, by simp [tbAccepted, tbConsumed]⟩
    | cons v ts =>
      exact ⟨_, _, ts, exec_tbPop_of_cons h, rfl, tbHolds_tbPopped h (k := 1) (by simp),
        by simp [tbAccepted, tbConsumed, Four.toList, fourOfList]⟩
  | tbPeek =>
    cases ts with
    | nil => exact ⟨_, _, [], exec_tbPeek_of_nil h, rfl, h, by simp [tbAccepted, tbConsumed]⟩
    | cons v ts =>
      exact ⟨_, _, v :: ts, exec_tbPeek_of_cons h, rfl, h, by simp [tbAccepted, tbConsumed]⟩
  | tbReadBulk l =>
    refine ⟨_, _, _, exec_tbReadBulk_of_holds h l, rfl,
      tbHolds_tbPopped h (least_tbCounts_le l ts), fun p => ?_⟩
    rw [tbConsumed_tbReadBulk, ← List.map_append, List.take_append_drop]
    simp [tbAccepted]
  | tbLen => exact ⟨_, _, ts, exec_tbLen h.1, rfl, h, by simp [tbAccepted, tbConsumed]⟩
  | _ => simp [Instr.op] at hi

/-- Over any TB commands, in every lane what was queued and what is accepted is what is consumed and
what is left queued, in one order; the tuples accepted and left queued are the same for all
lanes. -/
theorem runCommands_tb_fifo {is : List Instr} (h : s.tbHolds ts)
    (hops : ∀ i ∈ is, i.op ∈ tbFifoOps) :
    ∃ rs t rest, runCommands is s = some (rs, t) ∧ t.tbHolds rest ∧
      ∀ p : PlayerId, (ts ++ (List.zipWith tbAccepted is rs).flatten).map (fun v => v.get p) =
        (List.zipWith (tbConsumed p) is rs).flatten ++ rest.map fun v => v.get p := by
  induction is generalizing s ts with
  | nil => exact ⟨[], s, ts, rfl, h, by simp⟩
  | cons i is ih =>
    obtain ⟨hi, his⟩ := List.forall_mem_cons.mp hops
    obtain ⟨t, r, ts', hexec, hresp, hholds, hfirst⟩ := exec_tb_fifo h hi
    obtain ⟨rs, u, rest, hrun, hrest, hlater⟩ := ih hholds his
    refine ⟨r :: rs, u, rest, runCommands_cons hexec hresp hrun, hrest, fun p => ?_⟩
    simp only [List.zipWith_cons_cons, List.flatten_cons]
    rw [← List.append_assoc, List.map_append, hfirst, List.append_assoc, ← List.map_append,
      hlater, List.append_assoc]

/-- Settles O26: the run from the empty queue. -/
theorem tbIsLockstepFifo : Obligations.TbIsLockstepFifo :=
  fun _ _ h hops => runCommands_tb_fifo h hops

/-! ### The capacity law -/

/-- Of several pushes, those that fit are accepted and all after them answer FULL
(42_transfer_buffer.md R216). -/
theorem runCommands_tbPushes (h : s.tbHolds ts) (vs : List (Four Word)) :
    ∃ t, runCommands (vs.map Instr.tbPush) s =
        some ((vs.take (s.tb.cap - ts.length)).map (fun _ => ⟨.ok, 0, []⟩) ++
          (vs.drop (s.tb.cap - ts.length)).map (fun _ => ⟨.full, 0, []⟩), t) ∧
      t.tbHolds (ts ++ vs.take (s.tb.cap - ts.length)) := by
  induction vs generalizing s ts with
  | nil => exact ⟨s, by simp [runCommands], by simpa using h⟩
  | cons v vs ih =>
    rcases (tbHolds_length_le h).eq_or_lt with hfull | hroom
    · obtain ⟨t, hrun, hholds⟩ := ih (s := s.respond .full 0 []) h
      simp only [State.respond_tb, hfull, Nat.sub_self, List.take_zero, List.drop_zero,
        List.map_nil, List.nil_append] at hrun hholds ⊢
      exact ⟨t, runCommands_cons (exec_tbPush_of_full h hfull v) rfl hrun, hholds⟩
    · obtain ⟨t, hrun, hholds⟩ := ih (s := (s.tbPushed v).respond .ok 0 [])
        (tbHolds_tbPushed h hroom v)
      have hk : s.tb.cap - ts.length = s.tb.cap - (ts ++ [v]).length + 1 := by
        simp only [List.length_append, List.length_singleton]
        omega
      rw [hk, List.take_succ_cons, List.drop_succ_cons]
      exact ⟨t, runCommands_cons (exec_tbPush_of_room h hroom v) rfl hrun,
        by simpa [State.tbPushed] using hholds⟩

/-- Settles O27: C pushes that fit, and k that do not. -/
theorem tbCapacityLaw : Obligations.TbCapacityLaw := by
  intro s first more h hlen
  have hall := runCommands_tbPushes h (first ++ more)
  rw [List.length_nil, Nat.sub_zero, ← hlen, List.take_left, List.drop_left, List.map_const',
    List.map_const', List.nil_append, hlen] at hall
  exact hall

end

end Sys2Proof.Machine

/-! ## The preconditions of SM and SC commands (40_transfer_state_machine.md R160; 43_session.md
R240)

Every SM command and every SC command but SC.NEW is a check and, behind it, what the command does
first. -/

namespace Sys2Proof.Machine

/-- A command behind its check: the refusal, or what it does. -/
def checkedBy (ck : Option Status) (s : State) (x : Outcome) : Outcome :=
  match ck with
  | some st => .next (s.answer st)
  | none => x

/-- The SM commands. -/
abbrev smOps : List Op :=
  [.smInit, .smStart, .smReady, .smUnready, .smStatus, .smId, .smSend, .smRecv, .smDiscover,
    .smRole]

/-- The SC commands but SC.NEW. -/
abbrev scOps : List Op :=
  [.scQueueSend, .scTick, .scReadBulk, .scReadAll, .scSkipEmpty, .scId, .scBlock, .scLeave]

section
variable {s t : State}

theorem checkedBy_of_refused {ck : Option Status} {st : Status} {x : Outcome} (h : ck = some st) :
    checkedBy ck s x = .next (s.respond st 0 []) := by
  rw [h]
  rfl

theorem checkedBy_eq_next {ck : Option Status} {x : Outcome} (h : checkedBy ck s x = .next t) :
    (∃ st, t = s.answer st) ∨ x = .next t := by
  cases ck with
  | some st => cases h; exact .inl ⟨st, rfl⟩
  | none => exact .inr h

theorem smCheck_of_session (b : Bool) (h : s.scState = .iddisc ∨ s.scState = .active) :
    smCheck b s = some .notOwner :=
  if_pos h

theorem smCheck_of_uninitialized (hown : s.ownsHandle) (hi : s.smInited = false) :
    smCheck true s = some .notInitialized := by
  rw [smCheck, if_neg, if_pos ⟨rfl, hi⟩]
  rcases hown with hsc | hsc <;> simp [hsc]

theorem scCheck_of_active (h : s.scState = .active) : scCheck s = none :=
  if_pos h

theorem scCheck_of_inactive (h : s.scState ≠ .active) : scCheck s = some .notActive :=
  if_neg h

/-! ### No first step behind a check moves sc_state -/

theorem writeRcnt_scState (v : Word) (s : State) : (s.writeRcnt v).scState = s.scState := by
  rw [(LinkWrite.writeRcnt v s).frame]

theorem writeSiocnt_scState (v : Word) (s : State) : (s.writeSiocnt v).scState = s.scState := by
  rw [(LinkWrite.writeSiocnt v s).frame]

/-- Of the answers of sm_start_core only FAILED_OKAY_CHECK can move sc_state. -/
theorem startDone_scState (k : StartCaller) {st : Status} (h : st ≠ .failedOkayCheck) (s : State) :
    (startDone k st s).scState = s.scState := by
  cases k with
  | command => rfl
  | tick => rw [startDone, if_neg h]; rfl
  | discover c => rw [startDone, if_neg h]; rfl
  | readAll l => rw [startDone, if_neg h]; rfl

theorem startReadBusy_scState (k : StartCaller) (s : State) :
    (startReadBusy k s).scState = s.scState := by
  unfold startReadBusy
  split_ifs
  · exact startDone_scState k (by decide) s
  · cases s.smRole <;> rfl

theorem readAllRead_scState {l : ReadAllLocals} (h : readAllRead l s = .next t) :
    t.scState = s.scState := by
  unfold readAllRead at h
  split_ifs at h
  · cases h
    rfl
  · dsimp only at h
    split at h
    · cases h
    · rename_i u hu
      obtain ⟨-, -, -, rfl⟩ := tbReadBulkCore_eq_ok.mp hu
      split_ifs at h <;> cases h <;> rfl

theorem skipPeek_scState {k : Nat} (h : skipPeek k s = .next t) : t.scState = s.scState := by
  unfold skipPeek at h
  split at h
  · cases h
  · cases h
    rfl
  · split_ifs at h <;> cases h <;> rfl

theorem rbWriteBulkCore_scState {ws : List Word} {k : Nat} (h : rbWriteBulkCore ws s = .ok (k, t)) :
    t.scState = s.scState := by
  rw [(rbWriteBulkCore_frame h).1]

/-- An SM command is its check, and one step that leaves sc_state alone. -/
theorem exec_sm_checked {i : Instr} (hi : i.op ∈ smOps) (s : State) :
    ∃ u : State, exec i s = checkedBy (smCheck (decide (i.op ≠ .smInit)) s) s (.next u) ∧
      u.scState = s.scState := by
  cases i with
  | smInit rate => exact ⟨_, rfl, writeRcnt_scState 0 s⟩
  | smStart => exact ⟨_, rfl, startReadBusy_scState .command s⟩
  | smReady => exact ⟨_, rfl, writeRcnt_scState 0 s⟩
  | smUnready => exact ⟨_, rfl, writeRcnt_scState s.cfg.altRcnt s⟩
  | smStatus => exact ⟨_, rfl, rfl⟩
  | smId => exact ⟨_, rfl, rfl⟩
  | smSend word => exact ⟨_, rfl, rfl⟩
  | smRecv slot => exact ⟨_, rfl, rfl⟩
  | smDiscover => exact ⟨_, rfl, writeRcnt_scState s.cfg.altRcnt s⟩
  | smRole => exact ⟨_, rfl, rfl⟩
  | _ => simp [Instr.op] at hi

/-- An SC command but SC.NEW is its check, and one step that leaves sc_state alone. -/
theorem exec_sc_checked {i : Instr} (hi : i.op ∈ scOps) (s : State) :
    ∃ x : Outcome, exec i s = checkedBy (scCheck s) s x ∧
      ∀ t, x = .next t → t.scState = s.scState := by
  cases i with
  | scQueueSend words =>
    refine ⟨_, rfl, fun t ht => ?_⟩
    split at ht <;> cases ht
    rename_i hu
    exact (rbWriteBulkCore_scState hu :)
  | scTick => exact ⟨_, rfl, by rintro t ⟨⟩; exact startReadBusy_scState .tick s⟩
  | scReadBulk counts =>
    refine ⟨_, rfl, fun t ht => ?_⟩
    split at ht <;> cases ht
    obtain ⟨-, -, -, rfl⟩ := tbReadBulkCore_eq_ok.mp ‹_›
    rfl
  | scReadAll counts =>
    refine ⟨_, rfl, fun t ht => ?_⟩
    split_ifs at ht
    · exact readAllRead_scState ht
    · cases ht
      rfl
  | scSkipEmpty => exact ⟨_, rfl, fun t ht => skipPeek_scState ht⟩
  | scId => exact ⟨_, rfl, by rintro t ⟨⟩; rfl⟩
  | scBlock flag => exact ⟨_, rfl, by rintro t ⟨⟩; rfl⟩
  | scLeave => exact ⟨_, rfl, by rintro t ⟨⟩; rfl⟩
  | _ => simp [Instr.op] at hi

theorem exec_sc_inactive {i : Instr} (hi : i.op ∈ scOps) (h : s.scState ≠ .active) :
    exec i s = .next (s.respond .notActive 0 []) := by
  obtain ⟨x, hx, -⟩ := exec_sc_checked hi s
  rw [hx, checkedBy_of_refused (scCheck_of_inactive h)]

end

/-- Settles O28: the outcome of each command's check. -/
theorem commandsCheckTheSession : Obligations.CommandsCheckTheSession := by
  intro s i
  refine ⟨fun hi => ?_, exec_sc_inactive⟩
  obtain ⟨u, hu, -⟩ := exec_sm_checked hi s
  rw [hu]
  refine ⟨fun hsc => checkedBy_of_refused (smCheck_of_session _ hsc), fun hown hni hop => ?_⟩
  rw [decide_eq_true hop]
  exact checkedBy_of_refused (smCheck_of_uninitialized hown hni)

/-- Settles O46: behind the check each command is one read or one assignment. -/
theorem scIdAndBlock : Obligations.ScIdAndBlock := by
  intro s flag
  refine ⟨rfl, rfl, rfl,
    fun h => ⟨exec_sc_inactive (by decide) h, exec_sc_inactive (by simp [Instr.op]) h⟩,
    fun h => ⟨?_, ?_⟩⟩
  · rw [exec, execScId, scCheck_of_active h]
    cases s.scId <;> rfl
  · rw [exec, execScBlock, scCheck_of_active h]
    rfl

end Sys2Proof.Machine

/-! ## SC.NEW, SC.QUEUE_SEND, SC.TICK and SC.LEAVE (43_session.md R241 to R243, R249) -/

namespace Sys2Proof.Machine

section
variable {s t : State} {e1 e2 e3 : Env} {es : List Env}

/-! ### SC.NEW -/

/-- Behind its checks SC.NEW begins sm_init_core in IDDISC (43_session.md R241). -/
theorem exec_scNew (rate : BaudRate) {cap : Word} (hrb : s.rb.present = false)
    (htb : s.tb.present = false) (hcap : capacityLegal s.cfg cap) (hown : s.ownsHandle) :
    exec (.scNew rate cap) s =
      .next (initWriteRcnt (.new ⟨s.scState, rate, cap⟩) rate { s with scState := .iddisc }) := by
  rw [exec, execScNew, if_neg (by simp [hrb, htb]), if_neg (not_not.mpr hcap), if_neg]
  rcases hown with hsc | hsc <;> simp [hsc]

theorem exec_scNew_of_present (rate : BaudRate) (cap : Word)
    (h : s.rb.present = true ∨ s.tb.present = true) :
    exec (.scNew rate cap) s = .next (s.respond .alreadyInitialized 0 []) :=
  if_pos h

theorem exec_scNew_of_illegal (rate : BaudRate) {cap : Word} (hrb : s.rb.present = false)
    (htb : s.tb.present = false) (hcap : ¬ capacityLegal s.cfg cap) :
    exec (.scNew rate cap) s = .next (s.respond .invalidCapacity 0 []) := by
  rw [exec, execScNew, if_neg (by simp [hrb, htb]), if_pos hcap]
  rfl

/-- SC.NEW's critical section, with both buffers absent (43_session.md R241). -/
theorem newInstall_of_absent {l : NewLocals} (id : BitVec 2) (hrb : s.rb.present = false)
    (htb : s.tb.present = false) (hcap : capacityLegal s.cfg l.cap) :
    newInstall l id s =
      .next ({ s with
        rb := Queue.fresh l.cap.toNat, tb := Queue.fresh l.cap.toNat
        blockFlag := false, isrInstalled := true }.goto (.newReadSio l id)) := by
  have htb' := tbAllocCore_eq_ok.mpr
    ⟨show ({ s with rb := Queue.fresh l.cap.toNat } : State).tb.present = false from htb, hcap, rfl⟩
  rw [newInstall, rbAllocCore_eq_ok.mpr ⟨hrb, hcap, rfl⟩]
  simp only [htb']

theorem fgAdvance_newWriteSio {l : NewLocals} {id : BitVec 2} {v : Word} :
    fgAdvance (s.goto (.newWriteSio l id v)) = .next (newWriteSio l id v s) := by
  show Host.Outcome.next (newWriteSio l id v (s.goto _)) = _
  rw [newWriteSio, writeSiocnt_goto]
  rfl

/-- The interrupt-enable read-modify-write, and ACTIVE (43_session.md R241). -/
theorem play_newReadSio (h1 : e1.turn = .fg) (h2 : e2.turn = .fg) (hisr : s.isr = .idle)
    (l : NewLocals) (id : BitVec 2) :
    play (e1 :: e2 :: es) (s.goto (.newReadSio l id)) =
      play es ({ s with
        sio := { s.sio with irq := true }, scId := PlayerId.ofBits id, scRate := l.rate
        scState := .active, env := e2 }.respond .ok (idValue id) []) := by
  have hread : fgAdvance ((s.under e1).goto (.newReadSio l id)) =
      .next ((s.under e1).goto (.newWriteSio l id (s.under e1).siocntRead)) := rfl
  have hwrite := writeSiocnt_withIrq (s.under e2) true (store_siocntRead (s.under e1))
  rw [play_goto h1 hisr hread, play_goto_under h2 hisr fgAdvance_newWriteSio, newWriteSio, hwrite]
  rfl

/-! ### SC.QUEUE_SEND and SC.TICK -/

theorem exec_scQueueSend {ws : List Word} (hsc : s.scState = .active) (h : s.rbHolds ws)
    (words : List Word) :
    exec (.scQueueSend words) s =
      .next ((s.rbPushedAll (words.take (min words.length (s.rb.cap - ws.length)))).goto
        (.readyWriteRcnt (.queueSend (min words.length (s.rb.cap - ws.length))))) := by
  rw [exec, execScQueueSend, scCheck_of_active hsc, rbWriteBulkCore_of_holds h]

/-- Pushes move RB and RBM alone. -/
theorem rbPushedAll_eq (vs : List Word) (s : State) :
    s.rbPushedAll vs = { s with rb := (s.rbPushedAll vs).rb, rbm := (s.rbPushedAll vs).rbm } :=
  (congrArg (fun u : State =>
    { u with rb := (s.rbPushedAll vs).rb, rbm := (s.rbPushedAll vs).rbm })
    (rbPushedAll_frame vs s) :)

/-- The readiness re-assert behind the enqueue (43_session.md R242). -/
theorem play_queueSend (h1 : e1.turn = .fg) (h2 : e2.turn = .fg) (h3 : e3.turn = .fg)
    (hisr : s.isr = .idle) (k : Nat) (q : Queue) (m : Memory) :
    play [e1, e2, e3] ({ s with rb := q, rbm := m }.goto (.readyWriteRcnt (.queueSend k))) =
      .next (({ s with rb := q, rbm := m }.inMulti s.smRate (s.errAfterEntry e1 e3)
        s.idValidAfterEntry e3).respond .ok (BitVec.ofNat 16 k) []) := by
  let u : State := { s with rb := q, rbm := m }
  have hu : u.isr = .idle := hisr
  rw [play_goto h1 hu fgAdvance_readyWriteRcnt]
  exact play_readyWriteRcnt (s := u.under e1) h2 h3 hu (.queueSend k)

theorem header_scQueueSend {words : List Word} (h : words.length < 2 ^ 16) :
    (Instr.scQueueSend words).header = 0x31000000 ||| BitVec.ofNat 32 words.length := by
  rw [Instr.header_of_imm .scQueueSend rfl rfl (base := 0x31000000) (by decide)]
  congr 1
  apply BitVec.eq_of_toNat_eq
  simp only [Instr.imm, BitVec.toNat_setWidth, BitVec.toNat_ofNat]
  omega

theorem exec_scTick (hsc : s.scState = .active) :
    exec .scTick s = .next (startReadBusy .tick s) := by
  rw [exec, execScTick, scCheck_of_active hsc]

/-- SC.TICK surfaces the ERR check's answer as it stands (43_session.md R243). -/
theorem startDone_tick_okayStatus (s u : State) :
    startDone .tick s.okayStatus u = u.respond s.okayStatus 0 [] := by
  unfold State.okayStatus
  split_ifs <;> rfl

/-! ### SC.LEAVE -/

theorem exec_scLeave (hsc : s.scState = .active) :
    exec .scLeave s = .next (s.goto (.leaveWriteSio s.siocntRead)) := by
  rw [exec, execScLeave, scCheck_of_active hsc]

theorem fgAdvance_leaveWriteSio {v : Word} :
    fgAdvance (s.goto (.leaveWriteSio v)) = .next (leaveWriteSio v s) := by
  show Host.Outcome.next (leaveWriteSio v (s.goto _)) = _
  rw [leaveWriteSio, writeSiocnt_goto]
  rfl

/-- The interrupt-disable write, and the teardown (43_session.md R249). -/
theorem play_leaveWriteSio {v : Word} (h1 : e1.turn = .fg) (h2 : e2.turn = .fg)
    (hisr : s.isr = .idle) (hv : s.sio.store v = s.sio) :
    play (e1 :: e2 :: es) (s.goto (.leaveWriteSio v)) =
      play es ({ s with
        sio := { s.sio with irq := false }, isrInstalled := false
        rb := Queue.absent, tb := Queue.absent, scState := .left
        env := e2 }.respond .ok 0 []) := by
  have hwrite := writeSiocnt_withIrq (s.under e1) false hv
  rw [play_goto h1 hisr fgAdvance_leaveWriteSio, leaveWriteSio, hwrite]
  exact play_goto (s := { s.under e1 with sio := { s.sio with irq := false } }) h2 hisr rfl

end

/-! ### The statements -/

/-- Settles O38: the two refusals, and the run of sm_init_core from IDDISC. -/
theorem scNewOpens : Obligations.ScNewOpens := by
  intro s rate cap
  refine ⟨?_, exec_scNew_of_present rate cap,
    fun hrb htb hcap => exec_scNew_of_illegal rate hrb htb (not_capacityLegal hcap),
    fun hrb htb h0 hmax hown hisr e1 e2 e3 e4 hturns => ?_⟩
  · rw [Instr.header_eq_or]
    simp [Instr.op, Op.code, Instr.a2, Instr.imm]
  simp only [allTurns, List.forall_mem_cons] at hturns
  obtain ⟨h1, h2, h3, h4, -⟩ := hturns
  let u : State := { s with scState := .iddisc }
  let c : SmCaller := .new ⟨s.scState, rate, cap⟩
  have hisr' : u.isr = .idle := hisr
  refine ⟨_, s.idValidAfterEntry, exec_scNew rate hrb htb (capacityLegal_of_le h0 hmax) hown,
    writeRcnt_scState 0 u, idValidKept_afterEntry s, fun herr => ?_, fun herr => ?_⟩
  · exact play_initWriteRcnt_err (s := u) h1 h2 h3 hisr' c rate herr
  · exact play_initWriteRcnt_okay (s := u) h1 h2 h3 hisr' c rate h4 herr

/-- Settles O39: the critical section, then the interrupt-enable read-modify-write. -/
theorem scNewActivates : Obligations.ScNewActivates := by
  intro s l id e1 e2 e3 hturns hisr hfg hrb htb hcap t
  simp only [allTurns, List.forall_mem_cons] at hturns
  obtain ⟨h1, h2, h3, -⟩ := hturns
  obtain ⟨hpos, hmax⟩ := hcap
  have hinstall := newInstall_of_absent (s := (s.under e1).goto (.newInstall l id)) id hrb htb
    ⟨hpos, hmax⟩
  refine ⟨?_, rbHolds_fresh (s := t) hpos hmax, tbHolds_fresh (s := t) hpos hmax⟩
  rw [play_of_fg h1 hisr hfg hinstall]
  exact play_newReadSio (s := { s.under e1 with
    rb := Queue.fresh l.cap.toNat, tb := Queue.fresh l.cap.toNat
    blockFlag := false, isrInstalled := true }) h2 h3 hisr l id

/-- Settles O40: the words that fit are `rbPushedAll`, and sm_ready_core runs on that state. -/
theorem scQueueSendAppendsAndReadies : Obligations.ScQueueSendAppendsAndReadies := by
  intro s words ws e1 e2 e3 hturns hisr hsc h k
  simp only [allTurns, List.forall_mem_cons] at hturns
  obtain ⟨h1, h2, h3, -⟩ := hturns
  refine ⟨fun hfits => ⟨header_scQueueSend hfits, rfl⟩, ?_⟩
  have ⟨_, ⟨_, _, _, hw, _⟩, _⟩ := h
  have hlen : (words.take k).length = k := by simp [k]
  have hframe := rbPushedAll_frame (words.take k) s
  refine ⟨_, s.idValidAfterEntry, exec_scQueueSend hsc h words, rbHolds_rbPushedAll_take h words,
    ?_, fun a ha => rbPushedAll_lookup _ fun j hj heq => ha ?_,
    (congrArg (State.goto s.fg) hframe :), idValidKept_afterEntry s, ?_⟩
  · exact (rbPushedAll_rb hw (words.take k)).trans (by rw [hlen]; rfl)
  · exact List.mem_map.mpr ⟨j, List.mem_range.mpr (hj.trans_eq hlen), heq.symm⟩
  · rw [rbPushedAll_eq]
    exact play_queueSend h1 h2 h3 hisr k _ _

/-- Settles O41: sm_start_core behind the check, and what SC.TICK makes of its answers. -/
theorem scTickStarts : Obligations.ScTickStarts := by
  intro s e1 e2 e3 e4 hturns hisr hsc
  simp only [allTurns, List.forall_mem_cons] at hturns
  obtain ⟨h1, h2, h3, h4, -⟩ := hturns
  rw [exec_scTick hsc]
  refine ⟨rfl, fun hbusy => ?_, fun hbusy hrole => ?_, fun hbusy hrole => ?_⟩
  · rw [startReadBusy_of_busy _ hbusy]
    rfl
  · rw [startReadBusy_of_parent _ hbusy hrole]
    refine ⟨_, rfl, play_startReadSio_unready hisr _ h1 h2 h3, fun hr => ?_⟩
    rw [play_startReadSio_ready hisr _ h1 h2 h3 h4 hr, startDone_tick_okayStatus]
    rfl
  · rw [startReadBusy_of_child _ hbusy hrole]
    refine ⟨_, rfl, play_startReadReady_unready hisr _ h1, fun hr => ?_⟩
    rw [play_startReadReady_ready hisr _ h1 h2 hr, startDone_tick_okayStatus]
    rfl

/-- Settles O47: the check, and the disable and teardown behind it. -/
theorem scLeaveTearsDown : Obligations.ScLeaveTearsDown := by
  intro s e1 e2 hturns hisr
  simp only [allTurns, List.forall_mem_cons] at hturns
  obtain ⟨h1, h2, -⟩ := hturns
  exact ⟨rfl, exec_sc_inactive (by decide), fun hsc =>
    ⟨_, exec_scLeave hsc, play_leaveWriteSio h1 h2 hisr (store_siocntRead s)⟩⟩

end Sys2Proof.Machine

/-! ## SC.READ_BULK, SC.READ_ALL and SC.SKIP_EMPTY (43_session.md R244 to R246) -/

namespace Sys2Proof.Machine

section
variable {s : State} {e1 e2 : Env} {es : List Env} {ts : List (Four Word)}

/-! ### One step of FG, under the draws of the state -/

/-- A step of FG's command in progress, whatever draws the state carries. -/
theorem agentStep_of_fg {f : FgSeq} (hturn : s.env.turn = .fg) (hisr : s.isr = .idle)
    (hfg : s.fg = f) (hf : f ≠ .idle := by nofun) : agentStep s = fgAdvance (s.goto f) := by
  have hquiet : s.isrActive = false := by simp [State.isrActive, hisr]
  rw [agentStep, hturn, goto_of_fg hfg]
  show fgTurn s = fgAdvance s
  rw [fgTurn, hquiet, if_neg Bool.false_ne_true, if_neg (hfg ▸ hf)]

theorem flagSd_iff (s : State) : s.flagSd = true ↔ s.readyUnder s.env :=
  flagSd_under (s := s) (e := s.env)

/-! ### A run of sm_start_core from its position on (40_transfer_state_machine.md R151) -/

section
variable {e3 e4 e5 : Env} {k : StartCaller} (h1 : e1.turn = .fg) (h2 : e2.turn = .fg)
  (hisr : s.isr = .idle) (hfg : s.fg = .startReadBusy k) (hbusy : ¬ s.busyNow)
include h1 h2 hisr hfg hbusy

theorem play_start_parent_unready (h3 : e3.turn = .fg) (h4 : e4.turn = .fg)
    (hrole : s.smRole = .parent) (hr : ¬ s.readyUnder e4) :
    play (e1 :: e2 :: e3 :: e4 :: es) s =
      play es (startDone k .failedReadyCheck ((s.afterStartWrite e3).under e4)) := by
  rw [play_of_fg h1 hisr hfg fgAdvance_startReadBusy,
    startReadBusy_of_parent (s := s.under e1) k hbusy hrole]
  exact play_startReadSio_unready (s := s.under e1) hisr k h2 h3 h4 hr

theorem play_start_parent_ready (h3 : e3.turn = .fg) (h4 : e4.turn = .fg) (h5 : e5.turn = .fg)
    (hrole : s.smRole = .parent) (hr : s.readyUnder e4) :
    play (e1 :: e2 :: e3 :: e4 :: e5 :: es) s =
      play es (startDone k s.okayStatus ((s.afterStartWrite e3).under e5)) := by
  rw [play_of_fg h1 hisr hfg fgAdvance_startReadBusy,
    startReadBusy_of_parent (s := s.under e1) k hbusy hrole]
  exact play_startReadSio_ready (s := s.under e1) hisr k h2 h3 h4 h5 hr

theorem play_start_child_unready (hrole : s.smRole = .child) (hr : ¬ s.readyUnder e2) :
    play (e1 :: e2 :: es) s = play es (startDone k .failedReadyCheck (s.under e2)) := by
  rw [play_of_fg h1 hisr hfg fgAdvance_startReadBusy,
    startReadBusy_of_child (s := s.under e1) k hbusy hrole]
  exact play_startReadReady_unready (s := s.under e1) hisr k h2 hr

theorem play_start_child_ready (h3 : e3.turn = .fg) (hrole : s.smRole = .child)
    (hr : s.readyUnder e2) :
    play (e1 :: e2 :: e3 :: es) s = play es (startDone k s.okayStatus (s.under e3)) := by
  rw [play_of_fg h1 hisr hfg fgAdvance_startReadBusy,
    startReadBusy_of_child (s := s.under e1) k hbusy hrole]
  exact play_startReadReady_ready (s := s.under e1) hisr k h2 h3 hr

end

/-! ### Taking tuples off TB -/

theorem tbPopped_zero (h : s.tbHolds ts) : s.tbPopped 0 = s := by
  have ⟨_, ⟨_, _, hr, _⟩, _⟩ := h
  rw [State.tbPopped, Queue.popped, Queue.adv, Nat.add_zero, Nat.mod_eq_of_lt hr]

theorem tbPopped_tbPopped (j k : Nat) (s : State) :
    (s.tbPopped j).tbPopped k = s.tbPopped (j + k) := by
  simp only [State.tbPopped, Queue.popped]
  rw [← Queue.adv_adv]
  rfl

/-! ### SC.READ_BULK -/

theorem exec_scReadBulk (hsc : s.scState = .active) (h : s.tbHolds ts) (l : Four Word) :
    exec (.scReadBulk l) s =
      .next ((s.tbPopped (tbCounts l ts).least).respond .ok 0
        (bulkWords (tbCounts l ts) (lanesTake (tbCounts l ts) ts))) := by
  rw [exec, execScReadBulk, scCheck_of_active hsc, tbReadBulkCore_of_holds h]

/-! ### SC.READ_ALL -/

/-- The same count in all four slots. -/
def fourEqual (k : Nat) : Four Nat := ⟨k, k, k, k⟩

theorem fourEqual_get (k : Nat) (p : PlayerId) : (fourEqual k).get p = k := by
  cases p <;> rfl

theorem fourEqual_least (k : Nat) : (fourEqual k).least = k := by
  simp [fourEqual, Four.least]

/-- A bulk read that asks every slot for d words takes that many whole tuples, as far as they are
queued (42_transfer_buffer.md R219). -/
theorem tbReadBulkCore_fourEqual (h : s.tbHolds ts) (d : Nat) :
    tbReadBulkCore (fourEqual d) s =
      .ok (fourEqual (min ts.length d), lanesTake (fourEqual (min ts.length d)) ts,
        s.tbPopped (min ts.length d)) := by
  have hcounts : s.tb.bulkCounts (fourEqual d) = fourEqual (min ts.length d) := by
    rw [Queue.bulkCounts, tbHolds_occ h]
    rfl
  refine tbReadBulkCore_eq_ok.mpr ⟨h.1, hcounts.symm, fun p _ => ?_, ?_⟩
  · rw [hcounts, lanesTake_get, fourEqual_get, Memory.readAll_eq_ok]
    refine ⟨?_, lookup_headLane h p (Nat.min_le_left _ _)⟩
    simp only [Queue.headLane, List.forall_mem_map]
    exact fun j _ => tb_laneAddr_lt_tbmSize h p _
  · rw [hcounts, fourEqual_least]
    rfl

/-- SC.READ_ALL's locals after a round that took the k oldest of some tuples (43_session.md
R245). -/
def ReadAllLocals.read (k : Nat) (ts : List (Four Word)) (l : ReadAllLocals) : ReadAllLocals :=
  ⟨l.len, l.filled + k, l.out.zip (· ++ ·) (lanesTake (fourEqual k) ts)⟩

/-- A round that takes nothing. -/
theorem ReadAllLocals.read_zero (ts : List (Four Word)) (l : ReadAllLocals) : l.read 0 ts = l := by
  simp [ReadAllLocals.read, Four.zip, lanesTake, laneTake, fourEqual]

/-- The first round. -/
theorem ReadAllLocals.read_start (len k : Nat) (ts : List (Four Word)) :
    ReadAllLocals.read k ts ⟨len, 0, ⟨[], [], [], []⟩⟩ =
      ⟨len, k, lanesTake (fourEqual k) ts⟩ := by
  rw [ReadAllLocals.read, Nat.zero_add]
  rfl

/-- The tuples a round of SC.READ_ALL takes of those queued. -/
abbrev ReadAllLocals.round (l : ReadAllLocals) (ts : List (Four Word)) : Nat :=
  min ts.length (l.len - l.filled)

/-- What a round of SC.READ_ALL does where tuples are still wanted: it keeps what there is and the
re-tick comes next, or it ends with all of them (43_session.md R245). -/
theorem readAllRead_of_holds {l : ReadAllLocals} (h : s.tbHolds ts) (hl : l.filled ≠ l.len) :
    readAllRead l s =
      if l.filled + l.round ts < l.len then
        .next ((s.tbPopped (l.round ts)).goto (.startReadBusy (.readAll (l.read (l.round ts) ts))))
      else .next (readAllDone (l.read (l.round ts) ts) (s.tbPopped (l.round ts))) := by
  have hread := tbReadBulkCore_fourEqual h (l.len - l.filled)
  rw [fourEqual] at hread
  rw [readAllRead, if_neg hl]
  simp only [hread]
  rfl

/-- A round that finds all the tuples still wanted, where none are wanted too. -/
theorem readAllRead_of_filled {l : ReadAllLocals} (h : s.tbHolds ts)
    (hk : l.filled + l.round ts = l.len) :
    readAllRead l s = .next (readAllDone (l.read (l.round ts) ts) (s.tbPopped (l.round ts))) := by
  by_cases hl : l.filled = l.len
  · have hnone : l.round ts = 0 := by simp [ReadAllLocals.round, hl]
    rw [hnone, l.read_zero, tbPopped_zero h]
    exact if_pos hl
  · rw [readAllRead_of_holds h hl]
    exact if_neg hk.not_lt

/-- A round that finds fewer. -/
theorem readAllRead_of_unfilled {l : ReadAllLocals} (h : s.tbHolds ts)
    (hk : l.filled + l.round ts < l.len) :
    readAllRead l s =
      .next ((s.tbPopped (l.round ts)).goto
        (.startReadBusy (.readAll (l.read (l.round ts) ts)))) := by
  rw [readAllRead_of_holds h (Nat.lt_of_le_of_lt (Nat.le_add_right _ _) hk).ne]
  exact if_pos hk

theorem exec_scReadAll_of_mismatch {l : Four Word} (hsc : s.scState = .active)
    (hl : ¬ (l.l0 = l.l1 ∧ l.l1 = l.l2 ∧ l.l2 = l.l3)) :
    exec (.scReadAll l) s = .next (s.respond .mismatchedLengths 0 []) := by
  rw [exec, execScReadAll, scCheck_of_active hsc]
  exact if_pos hl

theorem exec_scReadAll_of_equal (hsc : s.scState = .active) (n : Word) :
    exec (.scReadAll ⟨n, n, n, n⟩) s = readAllRead ⟨n.toNat, 0, ⟨[], [], [], []⟩⟩ s := by
  rw [exec, execScReadAll, scCheck_of_active hsc]
  exact if_neg (not_not.mpr ⟨rfl, rfl, rfl⟩)

/-- The re-tick goes on to the next read on every answer but FAILED_OKAY_CHECK (43_session.md
R245). -/
theorem startDone_readAll {st : Status} (l : ReadAllLocals) (h : st ≠ .failedOkayCheck) :
    startDone (.readAll l) st s = s.goto (.readAllRead l) :=
  if_neg h

theorem startDone_readAll_of_okay (l : ReadAllLocals) (h : s.sio.err = false) (u : State) :
    startDone (.readAll l) s.okayStatus u = u.goto (.readAllRead l) := by
  rw [okayStatus_of_okay h, startDone_readAll l (by decide)]

/-- FAILED_OKAY_CHECK ends SC.READ_ALL with what it has (43_session.md R245). -/
theorem startDone_readAll_of_err (l : ReadAllLocals) (h : s.sio.err = true) (u : State) :
    startDone (.readAll l) s.okayStatus u =
      u.respond .failedOkayCheck 0 (bulkWords (fourEqual l.filled) l.out) := by
  rw [okayStatus_of_err h]
  rfl

/-! ### SC.SKIP_EMPTY -/

/-- A tuple has peer data where some slot but the unit's own holds a word other than SENTINEL. -/
theorem hasPeerData_iff (own : PlayerId) (t : Four Word) :
    hasPeerData own t = true ↔ ¬ emptyTransfer own t := by
  cases own <;> simp [hasPeerData, emptyTransfer, Four.get] <;> tauto

/-- No peek sees FGSEQ's position. -/
theorem skipPeek_goto {k : Nat} {f : FgSeq} : skipPeek k (s.goto f) = skipPeek k s := by
  rw [skipPeek, skipPeek, show tbPeekCore (s.goto f) = tbPeekCore s from rfl]
  rfl

section
variable {v : Four Word} (k : Nat)

theorem skipPeek_of_nil (h : s.tbHolds []) :
    skipPeek k s = .next (s.respond .ok (countValue k) []) := by
  rw [skipPeek, tbPeekCore_of_nil h]

theorem skipPeek_of_data (h : s.tbHolds (v :: ts)) (hv : ¬ emptyTransfer s.scId v) :
    skipPeek k s = .next (s.respond .ok (countValue k) []) := by
  rw [skipPeek, tbPeekCore_of_cons h]
  exact if_pos ((hasPeerData_iff _ _).mpr hv)

theorem skipPeek_of_empty (h : s.tbHolds (v :: ts)) (hv : emptyTransfer s.scId v) :
    skipPeek k s = .next (s.goto (.skipPop k)) := by
  rw [skipPeek, tbPeekCore_of_cons h]
  exact if_neg fun hdata => (hasPeerData_iff _ _).mp hdata hv

theorem skipPop_of_cons (h : s.tbHolds (v :: ts)) :
    skipPop k s = .next ((s.tbPopped 1).goto (.skipPeek (k + 1))) := by
  rw [skipPop, tbPopCore_eq_some.mpr ⟨tbPeekCore_of_cons h, rfl⟩]
  rfl

end

/-- The leading tuples without peer data (43_session.md R246). -/
def leadingEmpties (own : PlayerId) (ts : List (Four Word)) : Nat :=
  (ts.takeWhile fun t => decide (emptyTransfer own t)).length

theorem leadingEmpties_le (own : PlayerId) (ts : List (Four Word)) :
    leadingEmpties own ts ≤ ts.length :=
  (List.takeWhile_sublist _).length_le

theorem leadingEmpties_nil (own : PlayerId) : leadingEmpties own [] = 0 := rfl

theorem leadingEmpties_of_empty {own : PlayerId} {v : Four Word} (h : emptyTransfer own v) :
    leadingEmpties own (v :: ts) = leadingEmpties own ts + 1 := by
  rw [leadingEmpties, List.takeWhile_cons, if_pos (decide_eq_true h)]
  rfl

theorem leadingEmpties_of_data {own : PlayerId} {v : Four Word} (h : ¬ emptyTransfer own v) :
    leadingEmpties own (v :: ts) = 0 := by
  rw [leadingEmpties, List.takeWhile_cons, if_neg (by rwa [decide_eq_true_eq])]
  rfl

/-- SC.SKIP_EMPTY from a peek on: a discard and the next peek for every leading tuple without peer
data, and then the answer (43_session.md R246). -/
theorem play_skipPeek (h : s.tbHolds ts) (hisr : s.isr = .idle) (hturns : allTurns .fg es)
    (hlen : es.length = 2 * leadingEmpties s.scId ts) (j : Nat) :
    ∃ t e, skipPeek j s = .next t ∧
      play es t = .next (((s.tbPopped (leadingEmpties s.scId ts)).under e).respond .ok
        (countValue (j + leadingEmpties s.scId ts)) []) := by
  induction ts generalizing s es j with
  | nil =>
    obtain rfl : es = [] := List.length_eq_zero_iff.mp hlen
    refine ⟨_, s.env, skipPeek_of_nil j h, ?_⟩
    rw [leadingEmpties_nil, tbPopped_zero h]
    rfl
  | cons v ts ih =>
    by_cases hv : emptyTransfer s.scId v
    · rw [leadingEmpties_of_empty hv] at hlen ⊢
      obtain ⟨e1, e2, es, rfl⟩ : ∃ e1 e2 es', es = e1 :: e2 :: es' := by
        match es, hlen with
        | e1 :: e2 :: es', _ => exact ⟨e1, e2, es', rfl⟩
      simp only [allTurns, List.forall_mem_cons] at hturns
      obtain ⟨h1, h2, hturns⟩ := hturns
      have hrest : ((s.tbPopped 1).under e2).tbHolds ts := tbHolds_tbPopped h (k := 1) (by simp)
      have hlen : es.length = 2 * leadingEmpties s.scId ts := by simpa [Nat.mul_succ] using hlen
      obtain ⟨t, e, hpeek, hplay⟩ := ih hrest hisr hturns hlen (j + 1)
      refine ⟨_, e, skipPeek_of_empty j h hv, ?_⟩
      calc play (e1 :: e2 :: es) (s.goto (.skipPop j))
        _ = play (e2 :: es) (((s.tbPopped 1).under e1).goto (.skipPeek (j + 1))) :=
          play_goto h1 hisr (skipPop_of_cons (s := (s.under e1).goto (.skipPop j)) j h)
        _ = play es t := play_goto_under (s := s.tbPopped 1) h2 hisr (skipPeek_goto.trans hpeek)
        _ = _ := hplay
        _ = _ := by
          rw [Nat.add_comm (leadingEmpties s.scId ts) 1, ← tbPopped_tbPopped, ← Nat.add_assoc]
          rfl
    · rw [leadingEmpties_of_data hv] at hlen ⊢
      obtain rfl : es = [] := List.length_eq_zero_iff.mp hlen
      refine ⟨_, s.env, skipPeek_of_data j h hv, ?_⟩
      rw [tbPopped_zero h]
      rfl

end

/-! ### The statements -/

/-- Settles O42: behind the check SC.READ_BULK is `tbPopped` of the least of the counts. -/
theorem scReadBulkAdvancesByLeast : Obligations.ScReadBulkAdvancesByLeast := by
  intro s l ts
  refine ⟨Instr.header_of_bare .scReadBulk rfl rfl rfl (by decide), rfl,
    exec_sc_inactive (by simp [Instr.op]), fun hsc h => ?_⟩
  exact ⟨exec_scReadBulk hsc h l, tbHolds_tbPopped h (least_tbCounts_le l ts)⟩

/-- Settles O43: the lengths compared, and the first round. -/
theorem scReadAllFirstRound : Obligations.ScReadAllFirstRound := by
  intro s l hsc
  refine ⟨Instr.header_of_bare .scReadAll rfl rfl rfl (by decide), rfl,
    exec_scReadAll_of_mismatch hsc, ?_⟩
  rintro n ts rfl h k got t
  let l : ReadAllLocals := ⟨n.toNat, 0, ⟨[], [], [], []⟩⟩
  have hstart : l.read k ts = ⟨n.toNat, k, got⟩ := ReadAllLocals.read_start n.toNat k ts
  rw [exec_scReadAll_of_equal hsc]
  refine ⟨tbHolds_tbPopped h (Nat.min_le_left _ _), fun hn => ?_, fun hn => ?_⟩
  · have hk : k = n.toNat := Nat.min_eq_right hn
    rw [readAllRead_of_filled (l := l) h ((Nat.zero_add k).trans hk)]
    show Host.Outcome.next (readAllDone (l.read k ts) t) = _
    rw [hstart, readAllDone, hk]
  · have hk : 0 + k < n.toNat := by omega
    rw [readAllRead_of_unfilled (l := l) h hk, ← hstart]
    rfl

/-- Settles O44: the run of sm_start_core for the re-tick, its steps one by one, and the next
round. -/
theorem scReadAllLaterRounds : Obligations.ScReadAllLaterRounds := by
  intro s l hturn hisr _ failed
  have hstep {f : FgSeq} (hfg : s.fg = f) (hf : f ≠ .idle) : agentStep s = fgAdvance (s.goto f) :=
    agentStep_of_fg hturn hisr hfg hf
  refine ⟨fun e1 e2 e3 e4 e5 hturns hfg hbusy => ?_, fun hfg hbusy => ?_, fun hfg hr => ?_,
    fun hfg hr => ?_, fun hfg hm hok => ?_, fun hfg hm herr => ?_, fun ts hfg h => ?_⟩
  · simp only [allTurns, List.forall_mem_cons] at hturns
    obtain ⟨h1, h2, h3, h4, h5, -⟩ := hturns
    refine ⟨fun hrole => ⟨fun hr => ?_, fun hr hok => ?_, fun hr herr => ?_⟩,
      fun hrole => ⟨fun hr => ?_, fun hr hok => ?_, fun hr herr => ?_⟩⟩
    · rw [play_start_parent_unready h1 h2 hisr hfg hbusy h3 h4 hrole hr,
        startDone_readAll l (by decide)]
      rfl
    · rw [play_start_parent_ready h1 h2 hisr hfg hbusy h3 h4 h5 hrole hr,
        startDone_readAll_of_okay l hok]
      rfl
    · rw [play_start_parent_ready h1 h2 hisr hfg hbusy h3 h4 h5 hrole hr,
        startDone_readAll_of_err l herr]
      rfl
    · rw [play_start_child_unready h1 h2 hisr hfg hbusy hrole hr, startDone_readAll l (by decide)]
      rfl
    · rw [play_start_child_ready h1 h2 hisr hfg hbusy h3 hrole hr, startDone_readAll_of_okay l hok]
      rfl
    · rw [play_start_child_ready h1 h2 hisr hfg hbusy h3 hrole hr, startDone_readAll_of_err l herr]
      rfl
  · rw [hstep hfg nofun, fgAdvance_startReadBusy, startReadBusy_of_busy _ hbusy,
      startDone_readAll l (by decide)]
  · rw [hstep hfg nofun, fgAdvance_startReadReady, startReadReady,
      if_neg fun hsd => hr ((flagSd_iff s).mp hsd), startDone_readAll l (by decide)]
  · rw [hstep hfg nofun, fgAdvance_startReadReady, startReadReady, if_pos ((flagSd_iff s).mpr hr)]
  · rw [hstep hfg nofun, fgAdvance_startReadErr]
    exact congrArg Host.Outcome.next ((startReadErr_under (e := s.env) _ hm).trans
      (startDone_readAll_of_okay l hok s))
  · rw [hstep hfg nofun, fgAdvance_startReadErr]
    exact congrArg Host.Outcome.next ((startReadErr_under (e := s.env) _ hm).trans
      (startDone_readAll_of_err l herr s))
  · rw [hstep hfg nofun]
    exact ⟨tbHolds_tbPopped h (Nat.min_le_left _ _),
      readAllRead_of_filled (s := s.goto (.readAllRead l)) h,
      readAllRead_of_unfilled (s := s.goto (.readAllRead l)) h⟩

/-- Settles O45: the first peek is the command's own step, and the discards follow. -/
theorem scSkipEmptyDropsLeadingEmpties : Obligations.ScSkipEmptyDropsLeadingEmpties := by
  intro s ts es hisr hsc h k hturns hlen
  have hexec : exec .scSkipEmpty s = skipPeek 0 s := by
    rw [exec, execScSkipEmpty, scCheck_of_active hsc]
  obtain ⟨t, e, hpeek, hplay⟩ := play_skipPeek h hisr hturns hlen 0
  rw [Nat.zero_add] at hplay
  exact ⟨rfl, t, _, hexec.trans hpeek, hplay, tbHolds_tbPopped h (leadingEmpties_le s.scId ts), rfl,
    rfl, rfl⟩

end Sys2Proof.Machine

/-! ## The session state machine (43_session.md R250, R251) -/

namespace Sys2Proof.Machine

section
variable {s t : State}

/-! ### What a step of FG does to sc_state -/

/-- The moves of sc_state, by where FGSEQ stands (43_session.md R250). -/
inductive ScMove (s t : State) : Prop where
  | kept (h : t.scState = s.scState)
  | opened (l : NewLocals) (rate : BaudRate) (hfg : t.fg = .initReadSio (.new l) rate)
      (hprior : l.prior = s.scState) (hown : s.ownsHandle) (h : t.scState = .iddisc)
  | activated (l : NewLocals) (id : BitVec 2) (v : Word) (hfg : s.fg = .newWriteSio l id v)
      (h : t.scState = .active)
  | failed (l : NewLocals) (hphase : s.fg.phase = .opening) (hl : s.fg.newLocals = some l)
      (hresp : t.resp = some ⟨.failedOkayCheck, 0, []⟩) (h : t.scState = l.prior)
  | left (hfg : s.fg = .leaveTeardown) (h : t.scState = .left)

/-- FAILED_OKAY_CHECK in sm_init_core or discovery puts SC.NEW's prior state back. -/
theorem smFail_scMove {c : SmCaller} (hphase : s.fg.phase = c.phase)
    (hl : s.fg.newLocals = c.newLocals) : ScMove s (smFail c s) := by
  cases c with
  | command => exact .kept rfl
  | new l => exact .failed l hphase hl rfl rfl

theorem startDone_scMove {k : StartCaller} (st : Status) (hfg : s.fg = .startReadErr k) :
    ScMove s (startDone k st s) := by
  by_cases hst : st = .failedOkayCheck
  · subst hst
    cases k with
    | command => exact .kept rfl
    | tick => exact .kept rfl
    | discover c => exact smFail_scMove (by rw [hfg]; rfl) (by rw [hfg]; rfl)
    | readAll l => exact .kept rfl
  · exact .kept (startDone_scState k hst s)

theorem startReadReady_scState (k : StartCaller) (s : State) :
    (startReadReady k s).scState = s.scState := by
  unfold startReadReady
  split_ifs
  · rfl
  · exact startDone_scState k (by decide) s

theorem initReadRole_scState (c : SmCaller) (rate : BaudRate) (s : State) :
    (initReadRole c rate s).scState = s.scState := by
  cases c <;> rfl

theorem readyWriteSio_scState (c : ReadyCaller) (v : Word) (s : State) :
    (readyWriteSio c v s).scState = s.scState := by
  have hw := writeSiocnt_scState (withModeBaud s.smRate v) s
  cases c <;> exact hw

theorem discReadId_scState (c : SmCaller) (s : State) :
    (discReadId c s).scState = s.scState := by
  unfold discReadId
  split_ifs <;> rfl

theorem discCheck_scState (c : SmCaller) (id : BitVec 2) (s : State) :
    (discCheck c id s).scState = s.scState := by
  unfold discCheck
  split_ifs
  · cases c <;> rfl
  · rfl

theorem skipPop_scState {k : Nat} (h : skipPop k s = .next t) : t.scState = s.scState := by
  unfold skipPop at h
  split at h
  · cases h
  · cases h
  · rename_i u hu
    cases h
    obtain ⟨-, rfl⟩ := tbPopCore_eq_some.mp hu
    rfl

/-- A step of a command in progress. -/
theorem fgAdvance_scMove (h : fgAdvance s = .next t) : ScMove s t := by
  revert h
  unfold fgAdvance
  cases hfg : s.fg with
  | idle => rintro ⟨⟩; exact .kept rfl
  | initReadSio c rate => rintro ⟨⟩; exact .kept rfl
  | initWriteSio c rate v => rintro ⟨⟩; exact .kept (writeSiocnt_scState _ s)
  | initReadErr c rate =>
    rintro ⟨⟩
    unfold initReadErr
    split_ifs
    · exact smFail_scMove (by rw [hfg]; rfl) (by rw [hfg]; rfl)
    · exact .kept rfl
  | initReadRole c rate => rintro ⟨⟩; exact .kept (initReadRole_scState c rate s)
  | readyWriteRcnt c => rintro ⟨⟩; exact .kept (writeRcnt_scState 0 s)
  | readyReadSio c => rintro ⟨⟩; exact .kept rfl
  | readyWriteSio c v => rintro ⟨⟩; exact .kept (readyWriteSio_scState c v s)
  | startReadBusy k => rintro ⟨⟩; exact .kept (startReadBusy_scState k s)
  | startReadSio k => rintro ⟨⟩; exact .kept rfl
  | startWriteSio k v => rintro ⟨⟩; exact .kept (writeSiocnt_scState _ s)
  | startReadReady k => rintro ⟨⟩; exact .kept (startReadReady_scState k s)
  | startReadErr k =>
    rintro ⟨⟩
    unfold startReadErr
    split_ifs
    · exact startDone_scMove _ hfg
    · exact startDone_scMove _ hfg
  | discWriteUnready c => rintro ⟨⟩; exact .kept (writeRcnt_scState s.cfg.altRcnt s)
  | discWriteSend c => rintro ⟨⟩; exact .kept rfl
  | discClear c => rintro ⟨⟩; exact .kept rfl
  | discReadId c => rintro ⟨⟩; exact .kept (discReadId_scState c s)
  | discCheck c id => rintro ⟨⟩; exact .kept (discCheck_scState c id s)
  | statusReadRcnt v => rintro ⟨⟩; exact .kept rfl
  | newInstall l id => intro h; obtain ⟨-, rfl⟩ := newInstall_eq_next h; exact .kept rfl
  | newReadSio l id => rintro ⟨⟩; exact .kept rfl
  | newWriteSio l id v => rintro ⟨⟩; exact .activated l id v hfg rfl
  | readAllRead l => exact fun h => .kept (readAllRead_scState h)
  | skipPeek k => exact fun h => .kept (skipPeek_scState h)
  | skipPop k => exact fun h => .kept (skipPop_scState h)
  | leaveWriteSio v => rintro ⟨⟩; exact .kept (writeSiocnt_scState _ s)
  | leaveTeardown => rintro ⟨⟩; exact .left hfg rfl

theorem ownsHandle_of_not_session (h : ¬ (s.scState = .iddisc ∨ s.scState = .active)) :
    s.ownsHandle := by
  cases hsc : s.scState <;> simp_all [State.ownsHandle]

theorem execScNew_scMove {rate : BaudRate} {cap : Word} (h : execScNew rate cap s = .next t) :
    ScMove s t := by
  rcases execScNew_eq_next h with ⟨st, rfl⟩ | ⟨-, -, -, hsc, rfl⟩
  · exact .kept rfl
  · exact .opened ⟨s.scState, rate, cap⟩ rate rfl rfl (ownsHandle_of_not_session hsc)
      (writeRcnt_scState 0 _)

/-- Every command of a session but SC.NEW is behind its check (R160, R240). -/
theorem exec_scMove {i : Instr} (hi : i.op.config = .session) (hx : i.op ≠ .isrXferDone)
    (h : exec i s = .next t) : ScMove s t := by
  have hclass : i.op ∈ smOps ∨ i.op ∈ scOps ∨ i.op = .scNew := by
    revert hi hx
    cases i.op <;> decide
  rcases hclass with hsm | hsc | hnew
  · obtain ⟨u, hu, hkept⟩ := exec_sm_checked hsm s
    rcases checkedBy_eq_next (hu.symm.trans h) with ⟨st, rfl⟩ | ht
    · exact .kept rfl
    · cases ht
      exact .kept hkept
  · obtain ⟨x, hx, hkept⟩ := exec_sc_checked hsc s
    rcases checkedBy_eq_next (hx.symm.trans h) with ⟨st, rfl⟩ | ht
    · exact .kept rfl
    · exact .kept (hkept t ht)
  · cases i with
    | scNew rate cap => exact execScNew_scMove h
    | _ => cases hnew

/-- Taking the command off the port moves neither sc_state nor FGSEQ. -/
theorem ScMove.of_take {rest : List Word} (h : ScMove (s.take rest) t) : ScMove s t := by
  cases h with
  | kept h => exact .kept h
  | opened l rate hfg hprior hown h => exact .opened l rate hfg hprior hown h
  | activated l id v hfg h => exact .activated l id v hfg h
  | failed l hphase hl hresp h => exact .failed l hphase hl hresp h
  | left hfg h => exact .left hfg h

theorem portStep_scMove (h : portStep s = .next t) : ScMove s t := by
  rcases portStep_eq_next h with rfl | ⟨rest, rfl⟩ | ⟨i, rest, hx, hc, hexec⟩
  · exact .kept rfl
  · exact .kept rfl
  · cases hcfg : s.cfg.config with
    | standalone =>
      have hf := (exec_bufferStep (hc.trans hcfg) hexec).frame
      exact .kept (congrArg State.scState hf :)
    | session => exact (exec_scMove (hc.trans hcfg) hx hexec).of_take

theorem agentStep_scMove (halt : s.cfg.altRcnt[15] = true) (h : agentStep s = .next t) :
    ScMove s t := by
  have hother (u : State) (hu : OtherStep s u) : ScMove s u :=
    .kept (congrArg State.scState hu.frame :)
  rcases agentStep_eq_next h with ⟨-, h⟩ | ⟨-, h⟩ | ⟨-, rfl⟩ | ⟨-, rfl⟩
  · rcases fgTurn_eq_next h with rfl | ⟨-, ⟨-, h⟩ | h⟩
    · exact .kept rfl
    · exact portStep_scMove h
    · exact fgAdvance_scMove h
  · exact hother t (isrTurn_isrStep halt h).toOtherStep
  · exact hother _ (linkBegin_otherStep s)
  · exact hother _ (linkComplete_otherStep s)

/-! ### The session in a state of the invariant -/

/-- An ACTIVE session has its buffers and its handler (43_session.md R251). -/
theorem sessionUp_of_active (hs : s.SessionOk) (ha : s.scState = .active) : s.sessionUp := by
  have hfit := (phaseOk_iff s).mp hs.phase
  have hnoHandle : ¬ s.Handle := fun hh => by
    rcases hh.1 with h | h <;> simp [ha] at h
  cases hp : s.fg.phase <;> rw [hp] at hfit
  case idle => exact (hfit.resolve_right hnoHandle).2
  case handle => exact absurd hfit hnoHandle
  case opening => exact nomatch ha.symm.trans hfit.1
  case installed => exact nomatch ha.symm.trans hfit.1
  case session => exact hfit.2

/-- Only a unit in CONFIG = SESSION leaves UNINIT or has a command in progress. -/
theorem sessionOk_of_inv (h : s.Inv) (hbusy : s.scState ≠ .uninit ∨ s.fg ≠ .idle) :
    s.SessionOk := by
  cases hc : s.cfg.config with
  | session => exact h.session hc
  | standalone =>
    have hs := h.standalone hc
    exact hbusy.elim (absurd hs.sc) (absurd hs.fg)

end

/-! ### The statements -/

/-- Settles O48: the moves of sc_state, and what the invariant says of sc_state at their
positions. -/
theorem sessionStateMachine : Obligations.SessionStateMachine := by
  intro s t hinv hstep
  obtain ⟨u, hu, rfl⟩ := step_eq_next hstep
  cases agentStep_scMove hinv.params.2.2.1 hu with
  | kept h => exact .inl h
  | opened l rate hfg hprior hown h => exact .inr (.inl ⟨hown, h, l, rate, hfg, hprior⟩)
  | activated l id v hfg h =>
    have hs := sessionOk_of_inv hinv (.inr (by simp [hfg]))
    have hphase := (phaseOk_iff s).mp hs.phase
    rw [hfg] at hphase
    exact .inr (.inr (.inl ⟨hphase.1, h, l, id, v, hfg⟩))
  | failed l hopening hl hresp h =>
    have hs := sessionOk_of_inv hinv (.inr fun hidle => by rw [hidle] at hl; cases hl)
    have hphase := (phaseOk_iff s).mp hs.phase
    rw [hopening] at hphase
    exact .inr (.inr (.inr (.inl ⟨hphase.1, hresp, l, hl, h, (hs.newOk l hl).2⟩)))
  | left hfg h =>
    have hs := sessionOk_of_inv hinv (.inr (by simp [hfg]))
    have hphase := (phaseOk_iff s).mp hs.phase
    rw [hfg] at hphase
    exact .inr (.inr (.inr (.inr ⟨hphase.1, h, hfg⟩)))

/-- Settles O49: the session's buffers are what SC.NEW's first check looks for. -/
theorem atMostOneSession : Obligations.AtMostOneSession := by
  intro s hinv ha
  obtain ⟨hrb, htb, -⟩ := sessionUp_of_active (sessionOk_of_inv hinv (.inl (by simp [ha]))) ha
  exact ⟨hrb, htb, fun rate cap => exec_scNew_of_present rate cap (.inl hrb)⟩

end Sys2Proof.Machine

/-! ## A run of the interrupt handler (44_interrupt_handler.md R280 to R282)

The run is followed position by position: the four reads, the push, the pop, the SEND write and the
unready write. What each part does to the machine is an operation on the state, with its laws. -/

namespace Sys2Proof.Machine

section
variable {s t : State} {e e1 e2 e3 : Env} {es : List Env} {q : IsrSeq} {v : Four Word}
  {ws : List Word} {ts : List (Four Word)} {n : Nat}

/-- The handler at a position. -/
def State.handlerAt (q : IsrSeq) (s : State) : State := { s with isr := q }

/-! ### The tuple -/

/-- The tuple read is to be queued: it is not all SENTINEL and TB has room. -/
abbrev State.keeps (v : Four Word) (s : State) : Prop := ¬ allSentinel v ∧ ¬ s.tb.isFull

/-- TB with the tuple read appended where it is to be queued (44_interrupt_handler.md R280). -/
def State.tupleKept (v : Four Word) (s : State) : State :=
  { s with
    tb  := { s.tb with w := if s.keeps v then (s.tbPushed v).tb.w else s.tb.w }
    tbm := if s.keeps v then (s.tbPushed v).tbm else s.tbm }

theorem tupleKept_of_keeps (h : s.keeps v) : s.tupleKept v = s.tbPushed v := by
  rw [State.tupleKept, if_pos h, if_pos h]
  rfl

theorem tupleKept_of_drops (h : ¬ s.keeps v) : s.tupleKept v = s := by
  rw [State.tupleKept, if_neg h, if_neg h]

theorem keeps_iff (h : s.tbHolds ts) : s.keeps v ↔ ¬ allSentinel v ∧ ts.length < s.tb.cap := by
  rw [(tbHolds_length_le h).lt_iff_ne, State.keeps, Queue.isFull, tbHolds_occ h]

theorem tbHolds_tupleKept (h : s.tbHolds ts) :
    (s.tupleKept v).tbHolds
      (if ¬ allSentinel v ∧ ts.length < s.tb.cap then ts ++ [v] else ts) := by
  by_cases hk : s.keeps v
  · have hroom := (keeps_iff h).mp hk
    rw [tupleKept_of_keeps hk, if_pos hroom]
    exact tbHolds_tbPushed h hroom.2 v
  · rw [tupleKept_of_drops hk, if_neg fun hroom => hk ((keeps_iff h).mpr hroom)]
    exact h

/-- Only the words at TB's write cursor can change in TBM (42_transfer_buffer.md R216). -/
theorem tupleKept_lookup {a : Nat} (ha : ∀ p, a ≠ s.tb.laneAddr p s.tb.w) :
    (s.tupleKept v).tbm.lookup a = s.tbm.lookup a := by
  by_cases hk : s.keeps v
  · rw [tupleKept_of_keeps hk]
    exact Memory.lookup_writeLanes_of_ne fun p _ => ha p
  · rw [tupleKept_of_drops hk]

/-! ### The answer -/

/-- The block policy: RB has no word and block_flag is 1 (44_interrupt_handler.md R280). -/
abbrev State.blocks (ws : List Word) (s : State) : Prop := ws = [] ∧ s.blockFlag = true

/-- SEND takes RB's oldest word, which is popped, or SENTINEL (44_interrupt_handler.md R280). -/
def State.oldestSent (ws : List Word) (s : State) : State :=
  { s with
    rb   := { s.rb with r := if ws = [] then s.rb.r else (s.rbPopped 1).rb.r }
    send := ws.headD sentinel }

/-- The SEND write, and behind it under the block policy the unready write, with the draws of the
last step (44_interrupt_handler.md R280; 20_memory.md R88). -/
def State.answered (ws : List Word) (e : Env) (s : State) : State :=
  { s.oldestSent ws with
    rcnt       := if s.blocks ws then s.cfg.altRcnt else s.rcnt
    idValid    := if s.blocks ws then false else s.idValid
    xferActive := if s.blocks ws ∧ s.busyNow ∧ e.abandon = true then false else s.xferActive
    recv       := if s.blocks ws ∧ s.busyNow ∧ e.abandon = true then e.words else s.recv
    env        := e }

theorem rbHolds_oldestSent (h : s.rbHolds ws) : (s.oldestSent ws).rbHolds ws.tail := by
  cases ws with
  | nil => exact h
  | cons w ws => exact rbHolds_rbPopped h (k := 1) (by simp)

/-- Without the block policy the SEND write is the last step. -/
theorem answered_of_not_blocks (h : ¬ s.blocks ws) :
    s.answered ws e = (s.oldestSent ws).under e := by
  have hx : ¬ (s.blocks ws ∧ s.busyNow ∧ e.abandon = true) := fun hx => h hx.1
  rw [State.answered, if_neg h, if_neg h, if_neg hx, if_neg hx]
  rfl

/-- Under the block policy the unready write follows. -/
theorem answered_of_blocks (halt : s.cfg.altRcnt[15] = true) (h : s.blocks ws) :
    s.answered ws e = smUnreadyCore ((s.oldestSent ws).under e) := by
  have halt' : ((s.oldestSent ws).under e).cfg.altRcnt[15] = true := halt
  rw [State.answered, if_pos h, if_pos h]
  by_cases hdrop : s.multi ∧ s.xferActive = true ∧ e.abandon = true
  · have hx : s.blocks ws ∧ s.busyNow ∧ e.abandon = true := ⟨h, and_assoc.mpr hdrop⟩
    rw [smUnreadyCore_of_drops halt' hdrop, if_pos hx, if_pos hx]
    rfl
  · have hx : ¬ (s.blocks ws ∧ s.busyNow ∧ e.abandon = true) :=
      fun hx => hdrop (and_assoc.mp hx.2)
    rw [smUnreadyCore_of_keeps halt' hdrop, if_neg hx, if_neg hx]
    rfl

/-! ### One step of the handler -/

/-- The first step of a schedule of one agent's. -/
theorem exists_cons_of_allTurns {turn : Turn} (hturns : allTurns turn es)
    (hlen : es.length = n + 1) :
    ∃ e es', es = e :: es' ∧ e.turn = turn ∧ allTurns turn es' ∧ es'.length = n := by
  obtain ⟨e, es', rfl⟩ := List.exists_cons_of_length_eq_add_one hlen
  obtain ⟨hturn, hturns'⟩ := List.forall_mem_cons.mp hturns
  exact ⟨e, es', rfl, hturn, hturns', Nat.succ.inj hlen⟩

/-- A step of the running handler. -/
theorem play_handlerAt (hturn : e.turn = .isr)
    (h : isrAdvance ((s.under e).handlerAt q) = .next t) (hidle : q ≠ .idle := by nofun)
    (hentered : q ≠ .entered := by nofun) :
    play (e :: es) (s.handlerAt q) = play es t := by
  have hisr : isrTurn ((s.under e).handlerAt q) = .next t :=
    (if_neg hidle).trans ((if_neg hentered).trans h)
  apply play_cons_of_next
  rw [← hisr]
  show agentStep ((s.under e).handlerAt q) = isrTurn ((s.under e).handlerAt q)
  rw [agentStep, State.handlerAt, State.under, hturn]

theorem isrAdvance_push (h : s.tbHolds ts) (hv : ¬ allSentinel v) :
    isrAdvance (s.handlerAt (.push v)) = .next ((s.tupleKept v).handlerAt .pop) := by
  have h' : (s.handlerAt (.push v)).tbHolds ts := h
  show isrPush v (s.handlerAt (.push v)) = _
  rw [isrPush]
  rcases (tbHolds_length_le h).lt_or_eq with hroom | hfull
  · rw [tbPushCore_of_room h' hroom, tupleKept_of_keeps ((keeps_iff h).mpr ⟨hv, hroom⟩)]
    rfl
  · rw [tbPushCore_of_full h' hfull, tupleKept_of_drops fun hk => ((keeps_iff h).mp hk).2.ne hfull]
    rfl

theorem isrAdvance_pop (h : s.rbHolds ws) :
    isrAdvance (s.handlerAt .pop) =
      .next ({ s with rb := (s.oldestSent ws).rb }.handlerAt (.send ws.head?)) := by
  have h' : (s.handlerAt .pop).rbHolds ws := h
  show isrPop (s.handlerAt .pop) = _
  rw [isrPop]
  cases ws with
  | nil => rw [rbPopCore_of_nil h']; rfl
  | cons w ws => rw [rbPopCore_of_cons h']; rfl

theorem isrAdvance_send (ws : List Word) (s : State) :
    isrAdvance (s.handlerAt (.send ws.head?)) =
      .next ((s.writeSend (ws.headD sentinel)).handlerAt
        (if s.blocks ws then .unready else .idle)) := by
  show Host.Outcome.next (isrSend ws.head? (s.handlerAt (.send ws.head?))) = _
  cases ws with
  | nil =>
    by_cases hb : s.blockFlag = true
    · rw [if_pos ⟨rfl, hb⟩]
      exact congrArg Host.Outcome.next (if_pos hb)
    · rw [if_neg fun h => hb h.2]
      exact congrArg Host.Outcome.next (if_neg hb)
  | cons w ws => rfl

/-- The unready write does not see the handler's position. -/
theorem writeRcnt_handlerAt {v : Word} (h : v[15] = true) :
    (s.handlerAt q).writeRcnt v = (s.writeRcnt v).handlerAt q := by
  rw [writeRcnt_alternate _ h, writeRcnt_alternate _ h, apply_ite (State.handlerAt q)]
  rfl

theorem isrAdvance_unready (halt : s.cfg.altRcnt[15] = true) :
    isrAdvance (s.handlerAt .unready) = .next ((smUnreadyCore s).handlerAt .idle) := by
  show Host.Outcome.next ((s.handlerAt .unready).writeRcnt s.cfg.altRcnt).returnFromInterrupt = _
  rw [writeRcnt_handlerAt halt]
  rfl

/-! ### The run -/

/-- The four reads, with no completion between them (44_interrupt_handler.md R280). -/
theorem play_reads (h1 : e1.turn = .isr) (h2 : e2.turn = .isr) (h3 : e3.turn = .isr) :
    play (e1 :: e2 :: e3 :: es) (s.handlerAt (.recv1 s.recv.l0)) =
      play es ((s.under e3).handlerAt (isrAfterReads s.recv)) := by
  rw [play_handlerAt h1 rfl]
  exact (play_handlerAt (s := s.under e1) h2 rfl).trans
    (play_handlerAt (s := s.under e2) h3 rfl)

/-- The push, a step of its own where the tuple is not all SENTINEL. -/
theorem play_isrAfterReads (h : s.tbHolds ts) (hturns : allTurns .isr es)
    (hlen : es.length = (if allSentinel v then 0 else 1) + (n + 1)) :
    ∃ e es', es'.length = n + 1 ∧ allTurns .isr es' ∧ es.getLast? = es'.getLast? ∧
      play es (s.handlerAt (isrAfterReads v)) =
        play es' (((s.tupleKept v).under e).handlerAt .pop) := by
  by_cases hv : allSentinel v
  · rw [if_pos hv, Nat.zero_add] at hlen
    refine ⟨s.env, es, hlen, hturns, rfl, ?_⟩
    rw [isrAfterReads, if_pos hv, tupleKept_of_drops fun hk => hk.1 hv]
    rfl
  · rw [if_neg hv, Nat.add_comm] at hlen
    obtain ⟨e, es, rfl, hturn, hturns', hlen'⟩ := exists_cons_of_allTurns hturns hlen
    obtain ⟨e', es, rfl⟩ := List.exists_cons_of_length_eq_add_one hlen'
    refine ⟨e, e' :: es, hlen', hturns', List.getLast?_cons_cons, ?_⟩
    rw [isrAfterReads, if_neg hv]
    exact play_handlerAt hturn (isrAdvance_push (s := s.under e) h hv)

/-- The pop, the SEND write, and under the block policy the unready write. -/
theorem play_pop (halt : s.cfg.altRcnt[15] = true) (h : s.rbHolds ws) (hturns : allTurns .isr es)
    (hlen : es.length = (if s.blocks ws then 1 else 0) + 1 + 1) :
    ∃ e, es.getLast? = some e ∧
      play es (s.handlerAt .pop) = .next ((s.answered ws e).handlerAt .idle) := by
  obtain ⟨e1, es, rfl, h1, hturns, hlen⟩ := exists_cons_of_allTurns hturns hlen
  obtain ⟨e2, es, rfl, h2, hturns, hlen⟩ := exists_cons_of_allTurns hturns hlen
  have hsent : play (e1 :: e2 :: es) (s.handlerAt .pop) =
      play es
        (((s.oldestSent ws).under e2).handlerAt (if s.blocks ws then .unready else .idle)) := by
    rw [play_handlerAt h1 (isrAdvance_pop (s := s.under e1) h)]
    exact play_handlerAt (s := { s.under e1 with rb := (s.oldestSent ws).rb }) h2
      (isrAdvance_send ws _)
  rw [hsent]
  by_cases hb : s.blocks ws
  · obtain ⟨e3, rfl⟩ := List.length_eq_one_iff.mp (hlen.trans (if_pos hb))
    refine ⟨e3, rfl, ?_⟩
    rw [if_pos hb, answered_of_blocks halt hb]
    exact play_handlerAt (s := (s.oldestSent ws).under e2) (es := []) (hturns e3 (by simp))
      (isrAdvance_unready halt)
  · obtain rfl := List.eq_nil_of_length_eq_zero (hlen.trans (if_neg hb))
    refine ⟨e2, rfl, ?_⟩
    rw [if_neg hb, answered_of_not_blocks hb]
    rfl

/-- The whole run from the first read on. -/
theorem play_handler (halt : s.cfg.altRcnt[15] = true) (hrb : s.rbHolds ws) (htb : s.tbHolds ts)
    (hturns : allTurns .isr es)
    (hlen : es.length = 3 + (if allSentinel s.recv then 0 else 1) + 2 +
      (if s.blocks ws then 1 else 0)) :
    ∃ e, es.getLast? = some e ∧
      play es (s.handlerAt (.recv1 s.recv.l0)) =
        .next (((s.tupleKept s.recv).answered ws e).handlerAt .idle) := by
  have hlen : es.length = (if allSentinel s.recv then 0 else 1) +
      ((if s.blocks ws then 1 else 0) + 1 + 1) + 1 + 1 + 1 := by omega
  obtain ⟨e1, es, rfl, h1, hturns, hlen⟩ := exists_cons_of_allTurns hturns hlen
  obtain ⟨e2, es, rfl, h2, hturns, hlen⟩ := exists_cons_of_allTurns hturns hlen
  obtain ⟨e3, es, rfl, h3, hturns, hlen⟩ := exists_cons_of_allTurns hturns hlen
  obtain ⟨e4, es', hlen', hturns', hsame, hpush⟩ :=
    play_isrAfterReads (s := s.under e3) htb hturns hlen
  obtain ⟨e, hlast, hpop⟩ :=
    play_pop (s := ((s.under e3).tupleKept s.recv).under e4) halt hrb hturns' hlen'
  refine ⟨e, ?_, ?_⟩
  · simp [List.getLast?_cons, hsame.trans hlast]
  · rw [play_reads h1 h2 h3, hpush, hpop]
    rfl

end

/-- Settles O50: the four reads, the push and the rest of the run, each by its own equation. -/
theorem handlerRun : Obligations.HandlerRun := by
  intro s ws ts es halt hrb htb pushes unreadies hturns hlen
  obtain ⟨e, hlast, hrun⟩ := play_handler halt hrb htb hturns hlen
  refine ⟨rfl, _, _, rfl, hrun, rfl, tbHolds_tupleKept htb,
    rbHolds_oldestSent (s := s.tupleKept s.recv) hrb, rfl, rfl,
    fun hn => ⟨if_neg hn, if_neg fun hx => hn hx.1, if_neg fun hx => hn hx.1⟩,
    fun hb => ⟨if_pos hb, fun e' he' => ?_⟩, rfl, rfl, rfl,
    fun hd => if_neg fun hk => hd ((keeps_iff htb).mp hk), fun a ha => tupleKept_lookup ha, rfl⟩
  obtain rfl := Option.some.inj (hlast.symm.trans he')
  exact ⟨if_congr (and_iff_right hb) rfl rfl, if_congr (and_iff_right hb) rfl rfl⟩

end Sys2Proof.Machine

/-! ## No state of the invariant stops (60_exceptions.md R302)

A step can stop only in a core of a buffer, in SC.NEW or in SC.SKIP_EMPTY's discard. The invariant
says of each of these positions that the buffer is there, or for SC.NEW that there is none yet; a
present buffer holds a list of words or tuples, and the laws of the cores give the step's answer. -/

namespace Sys2Proof.Machine

/-- The outcome is a next state. -/
abbrev Proceeds (x : Outcome) : Prop := ∃ t, x = .next t

section
variable {s : State}

/-! ### A present buffer of the invariant holds something -/

/-- Every queued word of RB has been written, so RB holds some words (41_ring_buffer.md R182). -/
theorem exists_rbHolds (hb : s.BuffersOk) (hp : s.rb.present = true) : ∃ ws, s.rbHolds ws := by
  have hwritten : ∀ x ∈ s.rbContents, x.isSome = true := List.all_eq_true.mp (hb.rbWritten hp)
  refine ⟨s.rbContents.map fun x => x.getD 0, hp, hb.rbLegal hp, ?_⟩
  rw [List.map_map]
  refine (List.map_id _).symm.trans (List.map_congr_left fun x hx => ?_)
  obtain ⟨w, rfl⟩ := Option.isSome_iff_exists.mp (hwritten x hx)
  rfl

/-- The same of every lane of TB (42_transfer_buffer.md R212). -/
theorem exists_tbHolds (hb : s.BuffersOk) (hp : s.tb.present = true) : ∃ ts, s.tbHolds ts := by
  refine ⟨(List.range s.tb.occ).map fun j =>
    Four.ofFn fun p => (s.tbm.lookup (s.tb.laneAddr p (s.tb.r + j))).getD 0,
    hp, hb.tbLegal hp, fun p hlane => ?_⟩
  have hwritten := List.all_eq_true.mp (hb.tbWritten hp p hlane)
  simp only [State.tbLane, Queue.headLane, List.map_map, List.forall_mem_map,
    Four.get_ofFn, Function.comp_def] at hwritten ⊢
  refine List.map_congr_left fun j hj => ?_
  obtain ⟨w, hw⟩ := Option.isSome_iff_exists.mp (hwritten j hj)
  rw [hw]
  rfl

/-! ### The standalone buffer commands -/

theorem execRbAlloc_proceeds (cap : Word) (s : State) : Proceeds (execRbAlloc cap s) := by
  unfold execRbAlloc
  split
  · exact ⟨_, rfl⟩
  · exact ⟨_, rfl⟩

theorem execTbAlloc_proceeds (cap : Word) (s : State) : Proceeds (execTbAlloc cap s) := by
  unfold execTbAlloc
  split
  · exact ⟨_, rfl⟩
  · exact ⟨_, rfl⟩

/-- An RB command finds RB absent, or holding some words. -/
theorem exec_rb_proceeds {i : Instr} (hwf : s.cfg.wf) (hb : s.BuffersOk)
    (hi : i.op ∈ [Op.rbFree, .rbPush, .rbPop, .rbReadBulk, .rbWriteBulk, .rbLen]) :
    Proceeds (exec i s) := by
  cases hp : s.rb.present with
  | false => exact ⟨_, exec_rb_absent hp hi⟩
  | true =>
    rcases List.mem_cons.mp hi with hfree | hfifo
    · cases i with
      | rbFree => exact ⟨_, exec_rbFree hp⟩
      | _ => cases hfree
    · obtain ⟨ws, hws⟩ := exists_rbHolds hb hp
      obtain ⟨t, -, -, ht, -⟩ := exec_rb_fifo hwf hws hfifo
      exact ⟨t, ht⟩

/-- A TB command finds TB absent, or holding some tuples. -/
theorem exec_tb_proceeds {i : Instr} (hb : s.BuffersOk)
    (hi : i.op ∈ [Op.tbFree, .tbPush, .tbPop, .tbPeek, .tbReadBulk, .tbLen]) :
    Proceeds (exec i s) := by
  cases hp : s.tb.present with
  | false => exact ⟨_, exec_tb_absent hp hi⟩
  | true =>
    rcases List.mem_cons.mp hi with hfree | hfifo
    · cases i with
      | tbFree => exact ⟨_, exec_tbFree hp⟩
      | _ => cases hfree
    · obtain ⟨ts, hts⟩ := exists_tbHolds hb hp
      obtain ⟨t, -, -, ht, -⟩ := exec_tb_fifo hts hfifo
      exact ⟨t, ht⟩

theorem exec_standalone_proceeds {i : Instr} (hi : i.op.config = .standalone) (hwf : s.cfg.wf)
    (hb : s.BuffersOk) : Proceeds (exec i s) := by
  have hclass : i.op = .rbAlloc ∨ i.op = .tbAlloc ∨
      i.op ∈ [Op.rbFree, .rbPush, .rbPop, .rbReadBulk, .rbWriteBulk, .rbLen] ∨
      i.op ∈ [Op.tbFree, .tbPush, .tbPop, .tbPeek, .tbReadBulk, .tbLen] := by
    revert hi
    cases i.op <;> decide
  rcases hclass with halloc | halloc | hrb | htb
  · cases i with
    | rbAlloc cap => exact execRbAlloc_proceeds cap s
    | _ => cases halloc
  · cases i with
    | tbAlloc cap => exact execTbAlloc_proceeds cap s
    | _ => cases halloc
  · exact exec_rb_proceeds hwf hb hrb
  · exact exec_tb_proceeds hb htb

/-! ### The buffers of an ACTIVE session -/

theorem readAllRead_proceeds (htb : ∃ ts, s.tbHolds ts) (l : ReadAllLocals) :
    Proceeds (readAllRead l s) := by
  obtain ⟨ts, hts⟩ := htb
  by_cases hl : l.filled = l.len
  · exact ⟨_, if_pos hl⟩
  · rw [readAllRead_of_holds hts hl]
    split_ifs
    · exact ⟨_, rfl⟩
    · exact ⟨_, rfl⟩

theorem skipPeek_proceeds (htb : ∃ ts, s.tbHolds ts) (k : Nat) : Proceeds (skipPeek k s) := by
  obtain ⟨_ | ⟨v, ts⟩, hts⟩ := htb
  · exact ⟨_, skipPeek_of_nil k hts⟩
  · by_cases hv : emptyTransfer s.scId v
    · exact ⟨_, skipPeek_of_empty k hts hv⟩
    · exact ⟨_, skipPeek_of_data k hts hv⟩

/-- The tuple peeked is still there to be discarded (20_memory.md R105). -/
theorem skipPop_proceeds (htb : ∃ ts, s.tbHolds ts) (hne : ¬ s.tb.isEmpty) (k : Nat) :
    Proceeds (skipPop k s) := by
  obtain ⟨_ | ⟨v, ts⟩, hts⟩ := htb
  · have ⟨_, hlegal, _⟩ := hts
    exact absurd ((Queue.isEmpty_iff hlegal).mpr (tbHolds_occ hts)) hne
  · exact ⟨_, skipPop_of_cons k hts⟩

/-- Which family a command of a session belongs to (30_encoding.md R117). -/
theorem session_op_cases {o : Op} (h : o.config = .session) (hx : o ≠ .isrXferDone) :
    o ∈ smOps ∨ o ∈ scOps ∨ o = .scNew := by
  revert h hx
  cases o <;> decide

/-- A command behind its check proceeds where it does once the check has passed. -/
theorem checkedBy_proceeds {ck : Option Status} {x : Outcome} (h : ck = none → Proceeds x) :
    Proceeds (checkedBy ck s x) := by
  cases ck with
  | some st => exact ⟨_, rfl⟩
  | none => exact h rfl

theorem exec_sm_proceeds {i : Instr} (hi : i.op ∈ smOps) : Proceeds (exec i s) := by
  obtain ⟨u, hu, -⟩ := exec_sm_checked hi s
  rw [hu]
  exact checkedBy_proceeds fun _ => ⟨u, rfl⟩

theorem exec_sc_proceeds {i : Instr} (hi : i.op ∈ scOps) (hb : s.BuffersOk)
    (hidle : s.Active ∨ s.Handle) : Proceeds (exec i s) := by
  by_cases hsc : s.scState = .active
  case neg => exact ⟨_, exec_sc_inactive hi hsc⟩
  have ⟨hrb, htb, _⟩ := (active_of_scCheck hidle (scCheck_of_active hsc)).2
  have hts := exists_tbHolds hb htb
  cases i with
  | scQueueSend words =>
    obtain ⟨ws, hws⟩ := exists_rbHolds hb hrb
    exact ⟨_, exec_scQueueSend hsc hws words⟩
  | scTick => exact ⟨_, exec_scTick hsc⟩
  | scReadBulk counts =>
    obtain ⟨ts, hts⟩ := hts
    exact ⟨_, exec_scReadBulk hsc hts counts⟩
  | scReadAll counts =>
    refine checkedBy_proceeds fun _ => ?_
    split_ifs
    · exact readAllRead_proceeds hts _
    · exact ⟨_, rfl⟩
  | scSkipEmpty => exact checkedBy_proceeds fun _ => skipPeek_proceeds hts 0
  | scId => exact checkedBy_proceeds fun _ => ⟨_, rfl⟩
  | scBlock flag => exact checkedBy_proceeds fun _ => ⟨_, rfl⟩
  | scLeave => exact ⟨_, exec_scLeave hsc⟩
  | _ => simp [Instr.op] at hi

/-- With no buffer there is no session, so SC.NEW's checks leave UNINIT and LEFT
(43_session.md R241, R251). -/
theorem exec_scNew_proceeds (rate : BaudRate) (cap : Word) (hidle : s.Active ∨ s.Handle) :
    Proceeds (exec (.scNew rate cap) s) := by
  rcases hidle with ⟨-, hrb, -⟩ | ⟨hown, hrb, htb, -⟩
  · exact ⟨_, exec_scNew_of_present rate cap (.inl hrb)⟩
  · by_cases hcap : capacityLegal s.cfg cap
    · exact ⟨_, exec_scNew rate hrb htb hcap hown⟩
    · exact ⟨_, exec_scNew_of_illegal rate hrb htb hcap⟩

theorem exec_session_proceeds {i : Instr} (hi : i.op.config = .session) (hx : i.op ≠ .isrXferDone)
    (hb : s.BuffersOk) (hidle : s.Active ∨ s.Handle) : Proceeds (exec i s) := by
  rcases session_op_cases hi hx with hsm | hsc | hnew
  · exact exec_sm_proceeds hsm
  · exact exec_sc_proceeds hsc hb hidle
  · cases i with
    | scNew rate cap => exact exec_scNew_proceeds rate cap hidle
    | _ => cases hnew

/-! ### FG's turn -/

/-- Of the steps of a command in progress only four can stop, by what they find of the buffers. -/
theorem fgAdvance_proceeds (hb : s.BuffersOk) (hfit : s.Fits s.fg) : Proceeds (fgAdvance s) := by
  revert hfit
  unfold fgAdvance
  cases hfg : s.fg with
  | newInstall l id =>
    rintro ⟨⟨-, ⟨hrb, htb, -⟩, hcap, -⟩, -⟩
    exact ⟨_, newInstall_of_absent id hrb htb hcap⟩
  | readAllRead l => exact fun ⟨⟨_, _, htb, _⟩, _⟩ => readAllRead_proceeds (exists_tbHolds hb htb) l
  | skipPeek k => exact fun ⟨_, _, htb, _⟩ => skipPeek_proceeds (exists_tbHolds hb htb) k
  | skipPop k =>
    exact fun ⟨⟨_, _, htb, _⟩, hne⟩ => skipPop_proceeds (exists_tbHolds hb htb) hne k
  | _ => exact fun _ => ⟨_, rfl⟩

/-- The next command proceeds where every command the port lets FG issue does. -/
theorem portStep_proceeds
    (h : ∀ i rest, i.op ≠ .isrXferDone → i.op.config = s.cfg.config →
      Proceeds (exec i (s.take rest))) : Proceeds (portStep s) := by
  unfold portStep
  split
  · exact ⟨_, rfl⟩
  · exact ⟨_, rfl⟩
  · rename_i i rest hd
    obtain ⟨hx, hc⟩ := portDecode_eq_instr hd
    exact h i rest hx hc

theorem fgTurn_proceeds (h : s.Inv) : Proceeds (fgTurn s) := by
  have htake (rest : List Word) : (s.take rest).BuffersOk := { h.buffers with }
  unfold fgTurn
  split_ifs with hisr hfg
  · exact ⟨_, rfl⟩
  · refine portStep_proceeds fun i rest hx hc => ?_
    cases hcfg : s.cfg.config with
    | standalone => exact exec_standalone_proceeds (hc.trans hcfg) h.params (htake rest)
    | session =>
      obtain ⟨-, hfit⟩ := (sessionOk_iff s).mp (h.session hcfg)
      rw [hfg] at hfit
      exact exec_session_proceeds (hc.trans hcfg) hx (htake rest) hfit
  · exact fgAdvance_proceeds h.buffers ((sessionOk_iff s).mp (sessionOk_of_inv h (.inr hfg))).2

/-! ### The interrupt agent's turn -/

/-- A handler that is installed has a session's buffers (43_session.md R241, R249). -/
theorem sessionUp_of_installed (hs : s.SessionOk) (hi : s.isrInstalled = true) : s.sessionUp := by
  have hup : ¬ s.sessionDown := fun hdown => nomatch hi.symm.trans hdown.2.2
  have hfit := (phaseOk_iff s).mp hs.phase
  cases hp : s.fg.phase <;> rw [hp] at hfit
  case idle => exact (hfit.resolve_right fun hh => hup hh.2).2
  case handle => exact absurd hfit.2 hup
  case opening => exact absurd hfit.2 hup
  case installed => exact hfit.2
  case session => exact hfit.2

/-- No handler runs unless it is installed (60_exceptions.md R310, R312), so a running one has both
buffers. -/
theorem sessionUp_of_running (h : s.Inv) (hrun : s.isr ≠ .idle) : s.sessionUp := by
  cases hc : s.cfg.config with
  | session => exact sessionUp_of_installed (h.session hc) ((h.session hc).handler hrun)
  | standalone => exact absurd (h.standalone hc).isr hrun

theorem isrPush_proceeds (htb : ∃ ts, s.tbHolds ts) (v : Four Word) : Proceeds (isrPush v s) := by
  obtain ⟨ts, hts⟩ := htb
  unfold isrPush
  rcases (tbHolds_length_le hts).eq_or_lt with hfull | hroom
  · rw [tbPushCore_of_full hts hfull]
    exact ⟨_, rfl⟩
  · rw [tbPushCore_of_room hts hroom]
    exact ⟨_, rfl⟩

theorem isrPop_proceeds (hrb : ∃ ws, s.rbHolds ws) : Proceeds (isrPop s) := by
  obtain ⟨_ | ⟨w, ws⟩, hws⟩ := hrb
  · rw [isrPop, rbPopCore_of_nil hws]
    exact ⟨_, rfl⟩
  · rw [isrPop, rbPopCore_of_cons hws]
    exact ⟨_, rfl⟩

theorem isrAdvance_proceeds (hb : s.BuffersOk) (hup : s.sessionUp) : Proceeds (isrAdvance s) := by
  obtain ⟨hrb, htb, -⟩ := hup
  unfold isrAdvance
  cases s.isr with
  | push v => exact isrPush_proceeds (exists_tbHolds hb htb) v
  | pop => exact isrPop_proceeds (exists_rbHolds hb hrb)
  | _ => exact ⟨_, rfl⟩

theorem isrTurn_proceeds (h : s.Inv) : Proceeds (isrTurn s) := by
  unfold isrTurn
  split_ifs with hidle hpending hentered
  · exact ⟨_, rfl⟩
  · exact ⟨_, rfl⟩
  · exact ⟨_, rfl⟩
  · exact isrAdvance_proceeds h.buffers (sessionUp_of_running h hidle)

theorem agentStep_proceeds (h : s.Inv) : Proceeds (agentStep s) := by
  unfold agentStep
  cases s.env.turn with
  | fg => exact fgTurn_proceeds h
  | isr => exact isrTurn_proceeds h
  | linkBegin => exact ⟨_, rfl⟩
  | linkComplete => exact ⟨_, rfl⟩

end

/-- Settles O13: whoever moves goes on, and the draws for the next step stop nothing. -/
theorem noStateOfTheInvariantStops : Obligations.NoStateOfTheInvariantStops := by
  intro s hinv
  obtain ⟨t, ht⟩ := agentStep_proceeds hinv
  exact ⟨t.redraw, by rw [step, ht, redrawn]⟩

end Sys2Proof.Machine

/-! ## Only a parent's start write and LINK begin a transfer (20_memory.md R90, R91;
60_exceptions.md R321) -/

namespace Sys2Proof.Machine

/-- No transfer is in progress after the step that was not in progress before it. -/
def State.BeginsNone (s t : State) : Prop := t.xferActive = true → s.xferActive = true

section
variable {s t u : State}

theorem beginsNone_of_eq (h : t.xferActive = s.xferActive) : s.BeginsNone t := fun ht => h ▸ ht

theorem State.Books.beginsNone (h : s.Books t) : s.BeginsNone t :=
  beginsNone_of_eq (congrArg State.xferActive h :)

theorem State.BeginsNone.books (h : s.BeginsNone u) (hb : u.Books t) : s.BeginsNone t :=
  fun ht => h (hb.beginsNone ht)

/-! ### The register writes -/

theorem settleMode_beginsNone (before s : State) : s.BeginsNone (before.settleMode s) := by
  rcases settleMode_cases before s with ⟨h, -⟩ | ⟨h, -⟩ | ⟨h, -⟩ | ⟨h, -⟩ <;> rw [h]
  · exact id
  · exact id
  · exact id
  · exact nofun

theorem writeRcnt_beginsNone (v : Word) (s : State) : s.BeginsNone (s.writeRcnt v) := by
  have hsettle := settleMode_beginsNone s { s with rcnt := v }
  unfold State.writeRcnt
  split_ifs
  · exact hsettle
  · exact hsettle

theorem writeSiocnt_beginsNone {v : Word} (h : v[7] = false) : s.BeginsNone (s.writeSiocnt v) := by
  rw [writeSiocnt_of_start_zero s h]
  exact settleMode_beginsNone s { s with sio := s.sio.store v }

/-- A SIOCNT write that begins a transfer does so on a parent, in the mode it has settled
(20_memory.md R90, R91). -/
theorem writeSiocnt_begins {v : Word} (hx : s.xferActive = false)
    (ht : (s.writeSiocnt v).xferActive = true) :
    (s.writeSiocnt v).multi ∧ (s.writeSiocnt v).recv = fourSentinels ∧
      (s.writeSiocnt v).sendLatch = s.send ∧ s.cfg.roleHw = .parent := by
  cases hstart : v[7] with
  | false => exact nomatch hx.symm.trans (writeSiocnt_beginsNone hstart ht)
  | true =>
    let u := s.settleMode { s with sio := s.sio.store v }
    have hu : s.BeginsNone u := settleMode_beginsNone s { s with sio := s.sio.store v }
    have hframe := (LinkWrite.settleMode s { s with sio := s.sio.store v }).frame
    have hw : s.writeSiocnt v = u.requestStart := if_pos hstart
    rw [hw] at ht ⊢
    rcases requestStart_cases u with h | ⟨h, hm, hrole, -⟩
    · exact nomatch hx.symm.trans (hu (h ▸ ht))
    · rw [h]
      exact ⟨hm, rfl, (congrArg State.send hframe :), (congrArg (·.cfg.roleHw) hframe :) ▸ hrole⟩

/-! ### The other steps of FG -/

theorem readAllRead_xferActive {l : ReadAllLocals} (h : readAllRead l s = .next t) :
    t.xferActive = s.xferActive := by
  unfold readAllRead at h
  split_ifs at h
  · cases h
    rfl
  · dsimp only at h
    split at h
    · cases h
    · rename_i u hu
      obtain ⟨-, -, -, rfl⟩ := tbReadBulkCore_eq_ok.mp hu
      split_ifs at h <;> cases h <;> rfl

theorem skipPeek_xferActive {k : Nat} (h : skipPeek k s = .next t) :
    t.xferActive = s.xferActive := by
  unfold skipPeek at h
  split at h
  · cases h
  · cases h
    rfl
  · split_ifs at h <;> cases h <;> rfl

theorem skipPop_xferActive {k : Nat} (h : skipPop k s = .next t) :
    t.xferActive = s.xferActive := by
  unfold skipPop at h
  split at h
  · cases h
  · cases h
  · rename_i u hu
    cases h
    obtain ⟨-, rfl⟩ := tbPopCore_eq_some.mp hu
    rfl

/-- Of the steps of a command in progress only the start write can begin a transfer: every other
write of SIOCNT has START = 0 (20_memory.md R87). -/
theorem fgAdvance_begins (h : fgAdvance s = .next t) :
    s.BeginsNone t ∨ ∃ k v, s.fg = .startWriteSio k v ∧ t = startWriteSio k v s := by
  revert h
  unfold fgAdvance
  cases hfg : s.fg with
  | startWriteSio k v => rintro ⟨⟩; exact .inr ⟨k, v, rfl, rfl⟩
  | idle => rintro ⟨⟩; exact .inl id
  | initReadSio c rate => rintro ⟨⟩; exact .inl id
  | initWriteSio c rate v =>
    rintro ⟨⟩; exact .inl (writeSiocnt_beginsNone (start_withModeBaud rate v))
  | initReadErr c rate => rintro ⟨⟩; exact .inl (initReadErr_books c rate s).beginsNone
  | initReadRole c rate => rintro ⟨⟩; exact .inl (initReadRole_books c rate s).beginsNone
  | readyWriteRcnt c => rintro ⟨⟩; exact .inl (writeRcnt_beginsNone 0 s)
  | readyReadSio c => rintro ⟨⟩; exact .inl id
  | readyWriteSio c v =>
    rintro ⟨⟩
    exact .inl ((writeSiocnt_beginsNone (start_withModeBaud s.smRate v)).books
      (readyDone_books c _))
  | startReadBusy k => rintro ⟨⟩; exact .inl (startReadBusy_books k s).beginsNone
  | startReadSio k => rintro ⟨⟩; exact .inl id
  | startReadReady k => rintro ⟨⟩; exact .inl (startReadReady_books k s).beginsNone
  | startReadErr k => rintro ⟨⟩; exact .inl (startReadErr_books k s).beginsNone
  | discWriteUnready c => rintro ⟨⟩; exact .inl (writeRcnt_beginsNone s.cfg.altRcnt s)
  | discWriteSend c => rintro ⟨⟩; exact .inl id
  | discClear c => rintro ⟨⟩; exact .inl id
  | discReadId c => rintro ⟨⟩; exact .inl (discReadId_books c s).beginsNone
  | discCheck c id => rintro ⟨⟩; exact .inl (discCheck_books c id s).beginsNone
  | statusReadRcnt v => rintro ⟨⟩; exact .inl id
  | newInstall l id => intro h; obtain ⟨-, rfl⟩ := newInstall_eq_next h; exact .inl fun ht => ht
  | newReadSio l id => rintro ⟨⟩; exact .inl fun ht => ht
  | newWriteSio l id v => rintro ⟨⟩; exact .inl (writeSiocnt_beginsNone (start_withIrq true v))
  | readAllRead l => exact fun h => .inl (beginsNone_of_eq (readAllRead_xferActive h))
  | skipPeek k => exact fun h => .inl (beginsNone_of_eq (skipPeek_xferActive h))
  | skipPop k => exact fun h => .inl (beginsNone_of_eq (skipPop_xferActive h))
  | leaveWriteSio v => rintro ⟨⟩; exact .inl (writeSiocnt_beginsNone (start_withIrq false v))
  | leaveTeardown => rintro ⟨⟩; exact .inl id

theorem exec_sm_beginsNone {i : Instr} (hi : i.op ∈ smOps) (s : State) :
    ∃ u : State, exec i s = checkedBy (smCheck (decide (i.op ≠ .smInit)) s) s (.next u) ∧
      s.BeginsNone u := by
  cases i with
  | smInit rate => exact ⟨_, rfl, writeRcnt_beginsNone 0 s⟩
  | smStart => exact ⟨_, rfl, (startReadBusy_books .command s).beginsNone⟩
  | smReady => exact ⟨_, rfl, writeRcnt_beginsNone 0 s⟩
  | smUnready => exact ⟨_, rfl, writeRcnt_beginsNone s.cfg.altRcnt s⟩
  | smStatus => exact ⟨_, rfl, id⟩
  | smId => exact ⟨_, rfl, id⟩
  | smSend word => exact ⟨_, rfl, id⟩
  | smRecv slot => exact ⟨_, rfl, id⟩
  | smDiscover => exact ⟨_, rfl, writeRcnt_beginsNone s.cfg.altRcnt s⟩
  | smRole => exact ⟨_, rfl, id⟩
  | _ => simp [Instr.op] at hi

theorem exec_sc_xferActive {i : Instr} (hi : i.op ∈ scOps) (s : State) :
    ∃ x : Outcome, exec i s = checkedBy (scCheck s) s x ∧
      ∀ t, x = .next t → t.xferActive = s.xferActive := by
  cases i with
  | scQueueSend words =>
    refine ⟨_, rfl, fun t ht => ?_⟩
    split at ht <;> cases ht
    rename_i hu
    exact (congrArg State.xferActive (rbWriteBulkCore_frame hu).1 :)
  | scTick =>
    exact ⟨_, rfl, by rintro t ⟨⟩; exact (congrArg State.xferActive (startReadBusy_books _ s) :)⟩
  | scReadBulk counts =>
    refine ⟨_, rfl, fun t ht => ?_⟩
    split at ht <;> cases ht
    obtain ⟨-, -, -, rfl⟩ := tbReadBulkCore_eq_ok.mp ‹_›
    rfl
  | scReadAll counts =>
    refine ⟨_, rfl, fun t ht => ?_⟩
    split_ifs at ht
    · exact readAllRead_xferActive ht
    · cases ht
      rfl
  | scSkipEmpty => exact ⟨_, rfl, fun t ht => skipPeek_xferActive ht⟩
  | scId => exact ⟨_, rfl, by rintro t ⟨⟩; rfl⟩
  | scBlock flag => exact ⟨_, rfl, by rintro t ⟨⟩; rfl⟩
  | scLeave => exact ⟨_, rfl, by rintro t ⟨⟩; rfl⟩
  | _ => simp [Instr.op] at hi

/-- No command begins a transfer in its first step. -/
theorem exec_beginsNone {i : Instr} (hi : i.op.config = .session) (hx : i.op ≠ .isrXferDone)
    (h : exec i s = .next t) : s.BeginsNone t := by
  rcases session_op_cases hi hx with hsm | hsc | hnew
  · obtain ⟨u, hu, hnone⟩ := exec_sm_beginsNone hsm s
    rcases checkedBy_eq_next (hu.symm.trans h) with ⟨st, rfl⟩ | ht
    · exact id
    · cases ht
      exact hnone
  · obtain ⟨x, hx, hsame⟩ := exec_sc_xferActive hsc s
    rcases checkedBy_eq_next (hx.symm.trans h) with ⟨st, rfl⟩ | ht
    · exact id
    · exact beginsNone_of_eq (hsame t ht)
  · cases i with
    | scNew rate cap =>
      rcases execScNew_eq_next h with ⟨st, rfl⟩ | ⟨-, -, -, -, rfl⟩
      · exact id
      · exact writeRcnt_beginsNone 0 { s with scState := .iddisc }
    | _ => cases hnew

theorem portStep_beginsNone (h : portStep s = .next t) : s.BeginsNone t := by
  rcases portStep_eq_next h with rfl | ⟨rest, rfl⟩ | ⟨i, rest, hx, hc, hexec⟩
  · exact id
  · exact id
  · cases hcfg : s.cfg.config with
    | standalone =>
      have hframe := (exec_bufferStep (hc.trans hcfg) hexec).frame
      exact beginsNone_of_eq (congrArg State.xferActive hframe :)
    | session => exact exec_beginsNone (s := s.take rest) (hc.trans hcfg) hx hexec

theorem fgTurn_begins (h : fgTurn s = .next t) :
    s.BeginsNone t ∨ ∃ k v, s.fg = .startWriteSio k v ∧ t = startWriteSio k v s := by
  rcases fgTurn_eq_next h with rfl | ⟨-, ⟨-, h⟩ | h⟩
  · exact .inl id
  · exact .inl (portStep_beginsNone h)
  · exact fgAdvance_begins h

end

end Sys2Proof.Machine

/-! ## What a step of the running handler does (60_exceptions.md R311, R314; 44_interrupt_handler.md
R280) -/

namespace Sys2Proof.Machine

/-- How many steps the handler can still have before it (44_interrupt_handler.md R280). -/
def IsrSeq.stepsLeft : IsrSeq → Nat
  | .idle => 0
  | .unready => 1
  | .send _ => 2
  | .pop => 3
  | .push _ => 4
  | .recv3 _ _ _ => 5
  | .recv2 _ _ => 6
  | .recv1 _ => 7
  | .entered => 8

/-- A running handler takes no interrupt, leaves FG's position and response alone, begins no
transfer and comes nearer to its end. -/
structure HandlerStep (s t : State) : Prop where
  irqPending : t.irqPending = s.irqPending
  fg         : t.fg = s.fg
  resp       : t.resp = s.resp
  xfer       : s.BeginsNone t
  nearer     : t.isr.stepsLeft < s.isr.stepsLeft

section
variable {s t : State}

/-- A step of the handler on the registers alone. -/
theorem handlerStep_of_registers (v : Word) (q : IsrSeq) (h : q.stepsLeft < s.isr.stepsLeft) :
    HandlerStep s { s with send := v, isr := q } :=
  ⟨rfl, rfl, rfl, id, h⟩

theorem isrPush_handlerStep {v : Four Word} (hisr : s.isr = .push v)
    (h : isrPush v s = .next t) : HandlerStep s t := by
  have hnearer : IsrSeq.stepsLeft .pop < s.isr.stepsLeft := by rw [hisr]; exact Nat.lt_succ_self 3
  unfold isrPush at h
  split at h
  · cases h
  · cases h
    exact handlerStep_of_registers s.send .pop hnearer
  · rename_i u hu
    cases h
    obtain ⟨-, -, m, -, rfl⟩ := tbPushCore_eq_some.mp hu
    exact ⟨rfl, rfl, rfl, id, hnearer⟩

theorem isrPop_handlerStep (hisr : s.isr = .pop) (h : isrPop s = .next t) : HandlerStep s t := by
  have hnearer (w : Option Word) : IsrSeq.stepsLeft (.send w) < s.isr.stepsLeft := by
    rw [hisr]; exact Nat.lt_succ_self 2
  unfold isrPop at h
  split at h
  · cases h
  · cases h
    exact handlerStep_of_registers s.send _ (hnearer none)
  · rename_i w u hu
    cases h
    obtain ⟨-, -, -, -, rfl⟩ := rbPopCore_eq_some.mp hu
    exact ⟨rfl, rfl, rfl, id, hnearer (some w)⟩

theorem isrSend_handlerStep {w : Option Word} (hisr : s.isr = .send w) :
    HandlerStep s (isrSend w s) := by
  have hnearer (q : IsrSeq) (hq : q.stepsLeft < 2) : q.stepsLeft < s.isr.stepsLeft := by
    rw [hisr]; exact hq
  unfold isrSend
  cases w with
  | some w => exact handlerStep_of_registers w .idle (hnearer .idle (by decide))
  | none =>
    dsimp only
    split_ifs
    · exact handlerStep_of_registers sentinel .unready (hnearer .unready (by decide))
    · exact handlerStep_of_registers sentinel .idle (hnearer .idle (by decide))

theorem isrUnready_handlerStep (hisr : s.isr = .unready) : HandlerStep s (isrUnready s) := by
  have hframe := (LinkWrite.writeRcnt s.cfg.altRcnt s).frame
  exact ⟨(congrArg State.irqPending hframe :), (congrArg State.fg hframe :),
    (congrArg State.resp hframe :), writeRcnt_beginsNone s.cfg.altRcnt s,
    by rw [hisr]; exact Nat.zero_lt_one⟩

theorem stepsLeft_isrAfterReads (v : Four Word) : (isrAfterReads v).stepsLeft < 5 := by
  unfold isrAfterReads
  split_ifs
  · decide
  · exact Nat.lt_succ_self 4

theorem isrAdvance_handlerStep (hidle : s.isr ≠ .idle) (hentered : s.isr ≠ .entered)
    (h : isrAdvance s = .next t) : HandlerStep s t := by
  have hread {q r : IsrSeq} (hisr : s.isr = r) (hq : q.stepsLeft < r.stepsLeft) :
      HandlerStep s { s with isr := q } :=
    handlerStep_of_registers s.send q (hisr ▸ hq)
  revert h
  unfold isrAdvance
  cases hisr : s.isr with
  | idle => exact absurd hisr hidle
  | entered => exact absurd hisr hentered
  | recv1 t0 => rintro ⟨⟩; exact hread hisr (Nat.lt_succ_self 6)
  | recv2 t0 t1 => rintro ⟨⟩; exact hread hisr (Nat.lt_succ_self 5)
  | recv3 t0 t1 t2 => rintro ⟨⟩; exact hread hisr (stepsLeft_isrAfterReads _)
  | push v => exact isrPush_handlerStep hisr
  | pop => exact isrPop_handlerStep hisr
  | send w => rintro ⟨⟩; exact isrSend_handlerStep hisr
  | unready => rintro ⟨⟩; exact isrUnready_handlerStep hisr

theorem isrTurn_handlerStep (hrun : s.isr ≠ .idle) (h : isrTurn s = .next t) :
    HandlerStep s t := by
  unfold isrTurn at h
  rw [if_neg hrun] at h
  split_ifs at h with hentered
  · cases h
    exact handlerStep_of_registers s.send _ (by rw [hentered]; exact Nat.lt_succ_self 7)
  · exact isrAdvance_handlerStep hrun hentered h

/-! ### The interrupt agent with no handler running (60_exceptions.md R310, R312) -/

theorem agentStep_isr (h : s.env.turn = .isr) : agentStep s = isrTurn s := by
  rw [agentStep, h]

theorem isrTurn_of_none_pending (hidle : s.isr = .idle) (hp : s.irqPending = false) :
    isrTurn s = .next s := by
  rw [isrTurn, if_pos hidle, if_neg (by simp [hp])]

theorem isrTurn_of_pending (hidle : s.isr = .idle) (hp : s.irqPending = true) :
    isrTurn s = .next s.takeInterrupt := by
  rw [isrTurn, if_pos hidle, if_pos hp]

theorem takeInterrupt_of_installed (h : s.isrInstalled = true) :
    s.takeInterrupt = { s with irqPending := false, isr := .entered } := by
  rw [State.takeInterrupt, if_pos h]

theorem takeInterrupt_of_not_installed (h : s.isrInstalled = false) :
    s.takeInterrupt = { s with irqPending := false } := by
  rw [State.takeInterrupt, if_neg (by simp [h])]

end

/-- Settles O57: FG's start write is `writeSiocnt_begins`, LINK's begin is its own definition, and
no other step begins a transfer. -/
theorem onlyParentStarts : Obligations.OnlyParentStarts := by
  intro s t hstep hx ht
  obtain ⟨u, hu, rfl⟩ := step_eq_next hstep
  have hactive : u.xferActive = true := ht
  have hbegins (hnone : s.BeginsNone u) : False := nomatch hx.symm.trans (hnone hactive)
  rcases agentStep_eq_next hu with ⟨hturn, h⟩ | ⟨-, h⟩ | ⟨hturn, rfl⟩ | ⟨-, rfl⟩
  · rcases fgTurn_begins h with hnone | ⟨k, v, hfg, rfl⟩
    · exact (hbegins hnone).elim
    · obtain ⟨hm, hrecv, hlatch, hrole⟩ := writeSiocnt_begins hx hactive
      exact ⟨hm, hrecv, hlatch, .inl ⟨hturn, hrole, k, v, hfg⟩⟩
  · by_cases hidle : s.isr = .idle
    · cases hp : s.irqPending with
      | false => cases (isrTurn_of_none_pending hidle hp).symm.trans h; exact (hbegins id).elim
      | true => cases (isrTurn_of_pending hidle hp).symm.trans h; exact (hbegins id).elim
    · exact (hbegins (isrTurn_handlerStep hidle h).xfer).elim
  · by_cases hgo : s.cfg.roleHw = .child ∧ s.multi ∧ s.xferActive = false
    · obtain ⟨hrole, hm, -⟩ := hgo
      have hbegin := linkBegin_of_enabled hrole hm hx
      rw [hbegin]
      exact ⟨hm, rfl, rfl, .inr ⟨hturn, hrole⟩⟩
    · exact (hbegins (beginsNone_of_eq (congrArg State.xferActive (if_neg hgo)))).elim
  · rcases linkComplete_cases s with h | h
    · exact (hbegins (beginsNone_of_eq (congrArg State.xferActive h))).elim
    · rw [h] at hactive
      cases hactive

end Sys2Proof.Machine

/-! ## The interrupt is taken (60_exceptions.md R309 to R314) -/

namespace Sys2Proof.Machine

section
variable {s t : State} {e : Env} {es : List Env}

/-! ### One step, by whose turn it is -/

/-- The handler takes precedence: "while it runs, FG takes no step" (60_exceptions.md R314). -/
theorem eq_of_fg_while_running (hrun : s.isr ≠ .idle) (hturn : s.env.turn = .fg)
    (h : agentStep s = .next t) : t = s := by
  rw [agentStep, hturn] at h
  exact (fgTurn_eq_next h).resolve_right fun hfg => hrun hfg.1

/-- Only the interrupt agent moves the handler. -/
theorem isr_kept (h : agentStep s = .next t) (hturn : s.env.turn ≠ .isr) : t.isr = s.isr := by
  rcases agentStep_eq_next h with ⟨-, h⟩ | ⟨hisr, -⟩ | ⟨-, rfl⟩ | ⟨-, rfl⟩
  · exact (fgTurn_fgStep h).isr
  · exact absurd hisr hturn
  · rcases linkBegin_cases s with h | h <;> rw [h]
    rfl
  · rcases linkComplete_cases s with h | h <;> rw [h]
    rfl

/-- A pending interrupt stays pending until it is taken (60_exceptions.md R308, R310). -/
theorem irqPending_kept (h : agentStep s = .next t) (hp : s.irqPending = true)
    (hno : ¬ s.takesInterrupt) : t.irqPending = true := by
  rcases agentStep_eq_next h with ⟨-, h⟩ | ⟨hturn, h⟩ | ⟨-, rfl⟩ | ⟨-, rfl⟩
  · exact (fgTurn_fgStep h).irqPending.trans hp
  · exact (isrTurn_handlerStep (fun hidle => hno ⟨hturn, hp, hidle⟩) h).irqPending.trans hp
  · rcases linkBegin_cases s with h | h <;> rw [h]
    · exact hp
    · exact hp
  · rcases linkComplete_cases s with h | h <;> rw [h]
    · exact hp
    · simp [hp]

/-! ### Infinite runs with a weakly fair interrupt agent (60_exceptions.md R313) -/

section
variable {run : Nat → State} (hrun : IsRun run)
include hrun

/-- What FG sends between two steps changes neither the pending bit nor the handler. -/
theorem IsRun.next_isr (n : Nat) : ∃ t, agentStep (run n) = .next t ∧
    (run (n + 1)).irqPending = t.irqPending ∧ (run (n + 1)).isr = t.isr := by
  obtain ⟨t, ht, hnext⟩ := hrun.next_eq n
  exact ⟨t, ht, (congrArg State.irqPending hnext :), (congrArg State.isr hnext :)⟩

theorem IsRun.pending_until_taken {n : Nat} (hp : (run n).irqPending = true)
    (hno : ∀ m, n ≤ m → ¬ (run m).takesInterrupt) : ∀ m, n ≤ m → (run m).irqPending = true := by
  intro m hm
  induction m, hm using Nat.le_induction with
  | base => exact hp
  | succ m hm ih =>
    obtain ⟨t, ht, hpending, -⟩ := hrun.next_isr m
    exact hpending.trans (irqPending_kept ht ih (hno m hm))

/-- The interrupt agent's next turn finds the handler where it is now. -/
theorem IsRun.next_isr_turn (hfair : WeaklyFair run) {n : Nat}
    (hen : ∀ m, n ≤ m → (run m).isrEnabled) :
    ∃ m, n ≤ m ∧ (run m).env.turn = .isr ∧ (run m).isr = (run n).isr := by
  have hturn := hfair n hen
  obtain ⟨hm, hisr⟩ := Nat.find_spec hturn
  have hkept : ∀ k, n ≤ k → k ≤ Nat.find hturn → (run k).isr = (run n).isr := by
    intro k hk
    induction k, hk using Nat.le_induction with
    | base => exact fun _ => rfl
    | succ k hk ih =>
      intro hlt
      obtain ⟨t, ht, -, hnext⟩ := hrun.next_isr k
      have hother : (run k).env.turn ≠ .isr := fun hearlier =>
        Nat.find_min hturn hlt ⟨hk, hearlier⟩
      exact (hnext.trans (isr_kept ht hother)).trans (ih (Nat.le_of_succ_le hlt))
  exact ⟨_, hm, hisr, hkept _ hm le_rfl⟩

/-- A pending interrupt is taken: were it never taken, each turn of the interrupt agent would bring
the running handler nearer to its end. -/
theorem IsRun.interrupt_taken (hfair : WeaklyFair run) {n : Nat}
    (hp : (run n).irqPending = true) : ∃ m, n ≤ m ∧ (run m).takesInterrupt := by
  by_contra hnever
  have hno : ∀ m, n ≤ m → ¬ (run m).takesInterrupt := fun m hm htakes => hnever ⟨m, hm, htakes⟩
  have hpending := hrun.pending_until_taken hp hno
  have hruns : ∀ k m, n ≤ m → (run m).isr.stepsLeft ≠ k := by
    intro k
    induction k using Nat.strong_induction_on with
    | _ k ih =>
      rintro m hm rfl
      obtain ⟨j, hj, hturn, hsame⟩ :=
        hrun.next_isr_turn hfair fun i hi => .inl (hpending i (hm.trans hi))
      have hnj : n ≤ j := hm.trans hj
      obtain ⟨t, ht, -, hnext⟩ := hrun.next_isr j
      have hbusy : (run j).isr ≠ .idle := fun hidle => hno j hnj ⟨hturn, hpending j hnj, hidle⟩
      rw [agentStep_isr hturn] at ht
      have hnearer := (isrTurn_handlerStep hbusy ht).nearer
      rw [← hnext, hsame] at hnearer
      exact ih _ hnearer (j + 1) (Nat.le_succ_of_le hnj) rfl
  exact hruns _ n le_rfl rfl

end

/-! ### Runs of LINK's and the interrupt agent's steps -/

theorem play_linkBegin (hturn : e.turn = .linkBegin) (hrole : s.cfg.roleHw = .child)
    (hm : s.multi) (hx : s.xferActive = false) :
    play (e :: es) s = play es (s.under e).beginTransfer := by
  have hbegin : (s.under e).linkBegin = (s.under e).beginTransfer :=
    linkBegin_of_enabled hrole hm hx
  exact play_cons_of_next (hbegin ▸ agentStep_linkBegin (s := s.under e) hturn)

theorem play_linkComplete (hturn : e.turn = .linkComplete) (hx : s.xferActive = true) :
    play (e :: es) s = play es (s.under e).completeTransfer := by
  have hdone : (s.under e).linkComplete = (s.under e).completeTransfer := linkComplete_of_active hx
  exact play_cons_of_next (hdone ▸ agentStep_linkComplete (s := s.under e) hturn)

theorem play_takeInterrupt (hturn : e.turn = .isr) (hidle : s.isr = .idle)
    (hp : s.irqPending = true) : play (e :: es) s = play es (s.under e).takeInterrupt :=
  play_cons_of_next ((agentStep_isr (s := s.under e) hturn).trans (isrTurn_of_pending hidle hp))

/-- The interrupt agent issues ISR.XFER_DONE, whose first step reads RECV0 (60_exceptions.md R310;
44_interrupt_handler.md R280). -/
theorem play_entered (hturn : e.turn = .isr) (hisr : s.isr = .entered) :
    play (e :: es) s = play es ((s.under e).handlerAt (.recv1 s.recv.l0)) :=
  play_cons_of_next (agentStep_of_entered (s := s.under e) hturn hisr)

end

/-! ### The statements -/

/-- Settles O51: the interrupt agent's turn case by case, FG's and LINK's while the handler runs,
and the run in which the handler cannot go on for ever. -/
theorem interruptTaken : Obligations.InterruptTaken := by
  refine ⟨fun s hturn hp hidle => ?_, fun s hturn hp hidle => ⟨fun hi => ?_, fun hi => ?_⟩,
    fun s t hbusy h => ⟨fun hturn => eq_of_fg_while_running hbusy hturn h, fun hturn => ?_,
      fun hturn => ⟨isr_kept h (by simp [hturn]), fun hx hirq => ?_⟩⟩,
    fun run hrun hfair n hp => hrun.interrupt_taken hfair hp⟩
  · rw [agentStep_isr hturn, isrTurn_of_none_pending hidle hp]
  · rw [agentStep_isr hturn, isrTurn_of_pending hidle hp, takeInterrupt_of_installed hi]
  · rw [agentStep_isr hturn, isrTurn_of_pending hidle hp, takeInterrupt_of_not_installed hi]
  · rw [agentStep_isr hturn] at h
    have hstep := isrTurn_handlerStep hbusy h
    exact ⟨hstep.irqPending, hstep.fg, hstep.resp⟩
  · rw [agentStep_linkComplete hturn, linkComplete_of_active hx] at h
    cases h
    rw [completeTransfer_irqPending_eq_ite, if_pos hirq]

/-- Settles O54: LINK's begin and completion, then the taking and the handler's first two reads. -/
theorem completionsCoalesce : Obligations.CompletionsCoalesce := by
  intro s e1 e2 e3 e4 e5 hirq hidle hinst _ hm hrole hx hturns
  simp only [List.map_cons, List.map_nil, List.cons.injEq, and_true] at hturns
  obtain ⟨h1, h2, h3, h4, h5⟩ := hturns
  let b : State := (s.under e1).beginTransfer
  let t : State := (b.under e2).completeTransfer
  have hpending : t.irqPending = true := by
    rw [completeTransfer_irqPending_eq_ite]
    exact if_pos hirq
  have hown : t.recv.get s.cfg.posHw = s.send := by
    rw [State.completeTransfer_recv, Four.get_ofFn]
    exact completionWord_own (b.under e2)
  have hentered : (t.under e3).takeInterrupt.isr = .entered := if_pos hinst
  let u : State := ((t.under e3).takeInterrupt.under e4).under e5
  refine ⟨t, u.handlerAt (.recv2 t.recv.l0 t.recv.l1), ?_, hpending, hown, ?_, rfl, rfl⟩
  · rw [play_linkBegin h1 hrole hm hx, play_linkComplete h2 rfl]
    rfl
  · rw [play_takeInterrupt (s := t) h3 hidle hpending, play_entered h4 hentered,
      play_handlerAt h5 rfl]
    rfl

end Sys2Proof.Machine

/-! ## A completion on a cable (60_exceptions.md R325, R326; 20_memory.md R97)

The completion is each unit's own, under draws the cable ties together: the peer words it draws are
the other units' latched words as long as no precondition is broken. -/

namespace Sys2Proof.Machine

section
variable {c : Cable} {u w : State} {errs : Four Bool} {words : Four (Four Word)} {p : PlayerId}

/-- A unit with the draws the cable gives it for a completion. -/
def Cable.drawn (c : Cable) (errs : Four Bool) (words : Four (Four Word)) (u : State) : State :=
  u.under { u.env with err := errs.get u.cfg.posHw, words := c.peerWords words u }

theorem Cable.completeAll_units (c : Cable) (errs : Four Bool) (words : Four (Four Word)) :
    (c.completeAll errs words).units = c.units.map fun u => (c.drawn errs words u).linkComplete :=
  rfl

/-- No completion moves a unit to another slot. -/
theorem Cable.completeAll_positions (c : Cable) (errs : Four Bool) (words : Four (Four Word)) :
    (c.completeAll errs words).positions = c.positions := by
  rw [Cable.positions, Cable.completeAll_units, List.map_map]
  refine List.map_congr_left fun u _ => ?_
  show (c.drawn errs words u).linkComplete.cfg.posHw = u.cfg.posHw
  rcases linkComplete_cases (c.drawn errs words u) with h | h <;> rw [h] <;> rfl

/-! ### The units of a well-formed cable -/

theorem Cable.mem_positions (hu : u ∈ c.units) : u.cfg.posHw ∈ c.positions :=
  List.mem_map_of_mem hu

/-- No two units share a slot (60_exceptions.md R325). -/
theorem Cable.eq_of_posHw (hc : c.wf) (hu : u ∈ c.units) (hw : w ∈ c.units)
    (h : u.cfg.posHw = w.cfg.posHw) : u = w := by
  obtain ⟨hnodup, -⟩ := hc
  exact List.inj_on_of_nodup_map hnodup hu hw h

/-- Each unit is the one at its slot (60_exceptions.md R325). -/
theorem Cable.unitAt_posHw (hc : c.wf) (hw : w ∈ c.units) : c.unitAt w.cfg.posHw = some w := by
  cases hfind : c.unitAt w.cfg.posHw with
  | none => exact absurd (List.find?_eq_none.mp hfind w hw) (by simp)
  | some v =>
    have hv : v ∈ c.units := List.mem_of_find?_eq_some hfind
    have hslot : v.cfg.posHw = w.cfg.posHw := by simpa using List.find?_some hfind
    rw [Cable.eq_of_posHw hc hv hw hslot]

/-- The word on the cable at a unit's slot is the unit's latched word (60_exceptions.md R326). -/
theorem Cable.word_posHw (hc : c.wf) (hw : w ∈ c.units) : c.word w.cfg.posHw = w.sendLatch := by
  rw [Cable.word, Cable.unitAt_posHw hc hw]

theorem Cable.present_iff (hc : c.wf) (hu : u ∈ c.units) (p : PlayerId) :
    u.cfg.present.get p = true ↔ p ∈ c.positions ∧ p ≠ u.cfg.posHw := by
  obtain ⟨-, -, hpresent⟩ := hc
  exact hpresent u hu p (mem_tbLanes p)

theorem Cable.exists_unit (hc : c.wf) : ∃ u, u ∈ c.units := by
  obtain ⟨-, hparent, -⟩ := hc
  obtain ⟨u, hu, -⟩ := List.mem_map.mp hparent
  exact ⟨u, hu⟩

/-- With a transfer in progress on every unit, differing codes break the precondition
(20_memory.md R97; log 24). -/
theorem Cable.noted_broken_of_active (hc : c.wf) (hact : ∀ u ∈ c.units, u.xferActive = true) :
    c.noted.broken = true ↔ c.broken = true ∨ ¬ c.ratesMatch := by
  obtain ⟨u, hu⟩ := Cable.exists_unit hc
  have hsome : ∃ u ∈ c.units, u.xferActive = true := ⟨u, hu, hact u hu⟩
  rw [Cable.noted_broken, and_iff_right hsome]

/-! ### What a unit receives -/

theorem Cable.receives_own (c : Cable) (errs : Four Bool) (words : Four (Four Word)) (u : State) :
    (c.drawn errs words u).completeTransfer.recv.get u.cfg.posHw = u.sendLatch := by
  rw [State.completeTransfer_recv, Four.get_ofFn]
  exact completionWord_own (c.drawn errs words u)

theorem Cable.receives_sentinel (hc : c.wf) (hu : u ∈ c.units) (hp : p ∉ c.positions) :
    (c.drawn errs words u).completeTransfer.recv.get p = sentinel := by
  have hmissing : u.cfg.present.get p = false :=
    Bool.eq_false_iff.mpr fun h => hp ((Cable.present_iff hc hu p).mp h).1
  have hne : p ≠ u.cfg.posHw := fun h => hp (h ▸ Cable.mem_positions hu)
  rw [State.completeTransfer_recv, Four.get_ofFn]
  exact completionWord_missing (s := c.drawn errs words u) hne hmissing

theorem Cable.receives_drawn (hc : c.wf) (hu : u ∈ c.units) (hp : p ∈ c.positions)
    (hne : p ≠ u.cfg.posHw) :
    (c.drawn errs words u).completeTransfer.recv.get p = (c.peerWords words u).get p := by
  have hpresent : u.cfg.present.get p = true := (Cable.present_iff hc hu p).mpr ⟨hp, hne⟩
  rw [State.completeTransfer_recv, Four.get_ofFn]
  exact completionWord_present (s := c.drawn errs words u) hne hpresent

/-- While nothing is broken every unit receives the latched word of every unit
(60_exceptions.md R326). -/
theorem Cable.receives_latched (hc : c.wf) (hok : c.broken = false) (hu : u ∈ c.units)
    (hw : w ∈ c.units) :
    (c.drawn errs words u).completeTransfer.recv.get w.cfg.posHw = w.sendLatch := by
  by_cases hown : w.cfg.posHw = u.cfg.posHw
  · rw [Cable.eq_of_posHw hc hw hu hown]
    exact Cable.receives_own c errs words u
  · rw [Cable.receives_drawn hc hu (Cable.mem_positions hw) hown,
      Cable.peerWords_agree c words u hok, Four.get_ofFn, Cable.word_posHw hc hw]

end

/-- Settles O60: the cable that has noted the units' rates is as well-formed as the one before, and
what its units receive is read off slot by slot. -/
theorem cableCompletionAgrees : Obligations.CableCompletionAgrees := by
  intro c errs words hc hact broken
  have hnoted : c.noted.wf := hc
  have hbroken : c.noted.broken = true ↔ broken := Cable.noted_broken_of_active hc hact
  refine ⟨c.noted.completeAll errs words, rfl, Cable.completeAll_positions c.noted errs words,
    hbroken, fun v hv => ?_⟩
  rw [Cable.completeAll_units] at hv
  obtain ⟨u, hu, rfl⟩ := List.mem_map.mp hv
  rw [linkComplete_of_active (s := c.noted.drawn errs words u) (hact u hu)]
  have hlatched (hok : ¬ broken) (w : State) (hw : w ∈ c.units) :=
    Cable.receives_latched (errs := errs) (words := words) hnoted
      (Bool.eq_false_iff.mpr fun h => hok (hbroken.mp h)) hu hw
  refine ⟨rfl, rfl, rfl, fun w hw hown => ?_,
    fun q hq => Cable.receives_sentinel hnoted hu hq, hlatched, fun hb q hq hne => ?_⟩
  · rw [Cable.eq_of_posHw hc hw hu hown]
    exact Cable.receives_own c.noted errs words u
  · rw [Cable.receives_drawn hnoted hu hq hne,
      Cable.peerWords_broken c.noted words u (hbroken.mpr hb)]
    rfl

end Sys2Proof.Machine

/-! ## Reset (70_reset_and_hazards.md R341 to R343)

The model's reset is one of the draws of reset, so what holds whatever reset leaves to draws or
unspecified is proved of `State.resetDrawing` alone. -/

namespace Sys2Proof.Machine

/-- The values the model gives to what reset leaves open (log 8, log 9). -/
def ResetDraws.modelled : ResetDraws where
  rcnt      := 0
  send      := 0
  recv      := ⟨0, 0, 0, 0⟩
  sendLatch := 0
  unusedLo  := 0
  unusedHi  := false
  smRate    := 0
  smRole    := .parent
  scId      := .p0
  scRate    := 0

theorem resetWith_eq_resetDrawing (cfg : Params) (env : Env) :
    State.resetWith cfg env = State.resetDrawing cfg env .modelled := rfl

/-- An absent buffer with nothing written in its store (20_memory.md R80). -/
theorem storeOk_absent_nil (lanes : List PlayerId) (capMax size : Nat) :
    StoreOk lanes capMax size Queue.absent [] where
  legal hp := nomatch hp
  absent _ := rfl
  written hp := nomatch hp
  wf := List.Pairwise.nil
  size := nofun

section
variable {s : State}

/-- With SIOCNT.MODE 0 the mode is OTHER whatever RCNT holds (70_reset_and_hazards.md R342). -/
theorem not_multi_of_mode_zero (h : s.sio.mode = 0) : ¬ s.multi := by
  rintro ⟨-, hmode⟩
  rw [h] at hmode
  exact absurd hmode (by decide)

theorem exec_sm_uninitialized {i : Instr} (hown : s.ownsHandle) (hni : s.smInited = false)
    (hi : i.op ∈ [Op.smStart, .smReady, .smUnready, .smStatus, .smId, .smSend, .smRecv,
      .smDiscover, .smRole]) :
    exec i s = .next (s.respond .notInitialized 0 []) := by
  obtain ⟨hsm, -⟩ := commandsCheckTheSession s i
  obtain ⟨-, hrefused⟩ := hsm (List.mem_cons_of_mem _ hi)
  have hop : i.op ≠ .smInit := fun h => absurd (h ▸ hi) (by decide)
  exact hrefused hown hni hop

theorem exec_buffer_absent {i : Instr} (hrb : s.rb.present = false) (htb : s.tb.present = false)
    (hi : i.op ∈ [Op.rbFree, .rbPush, .rbPop, .rbReadBulk, .rbWriteBulk, .rbLen] ++
      [Op.tbFree, .tbPush, .tbPop, .tbPeek, .tbReadBulk, .tbLen]) :
    exec i s = .next (s.respond .noBuffer 0 []) := by
  rcases List.mem_append.mp hi with hi | hi
  · exact exec_rb_absent hrb hi
  · exact exec_tb_absent htb hi

end

/-! ### The invariant after reset -/

section
variable {cfg : Params} (env : Env) (d : ResetDraws)

theorem resetDrawing_buffersOk : (State.resetDrawing cfg env d).BuffersOk :=
  (buffersOk_iff _).mpr ⟨storeOk_absent_nil .., storeOk_absent_nil ..⟩

/-- After reset FG owns the handle, no session's resource is in place and nothing is enabled. -/
theorem resetDrawing_sessionOk : (State.resetDrawing cfg env d).SessionOk := by
  have hfacts : (State.resetDrawing cfg env d).SessionFacts := ⟨nofun, nofun, nofun, nofun, nofun⟩
  have hhandle : (State.resetDrawing cfg env d).Handle := ⟨.inl rfl, rfl, rfl, rfl⟩
  exact (sessionOk_iff _).mpr ⟨hfacts, .inr hhandle⟩

theorem resetDrawing_inv (hwf : cfg.wf) : (State.resetDrawing cfg env d).Inv where
  params := hwf
  buffers := resetDrawing_buffersOk env d
  session _ := resetDrawing_sessionOk env d
  standalone _ := ⟨rfl, rfl, rfl, rfl, rfl, rfl⟩
  inProgress := nofun

end

/-! ### The statements -/

/-- Settles O10: after reset FG owns an uninitialized handle, no session is ACTIVE and both buffers
are absent, which is all the commands' checks look at. -/
theorem commandsAfterReset : Obligations.CommandsAfterReset := by
  intro cfg env d s
  have hown : s.ownsHandle := .inl rfl
  have hsc : s.scState ≠ .active := nofun
  have hrb : s.rb.present = false := rfl
  have htb : s.tb.present = false := rfl
  exact ⟨fun i => ⟨exec_sm_uninitialized hown rfl, fun hi => exec_sc_inactive hi hsc,
      exec_buffer_absent hrb htb⟩,
    fun rate => ⟨_, exec_smInit rate hown, rfl⟩,
    fun cap hcap => ⟨fun rate => ⟨_, exec_scNew rate hrb htb hcap hown, rfl⟩,
      exec_rbAlloc_of_legal hrb hcap, exec_tbAlloc_of_legal htb hcap⟩⟩

/-- Settles O9: MODE is 0, so the computed flags read as in OTHER mode; the rest is what reset
stores. -/
theorem resetValues : Obligations.ResetValues := by
  intro cfg env s
  have hother (rc : Word) : ¬ State.multi { s with rcnt := rc } := not_multi_of_mode_zero rfl
  have hs : ¬ s.multi := not_multi_of_mode_zero rfl
  exact ⟨rfl, rfl, flagSi_of_other s hs, flagSd_of_other s hs, flagId_of_other s hs, rfl,
    flagBusy_of_other s hs, rfl, rfl, rfl, rfl, rfl, rfl, rfl, rfl, rfl, rfl, rfl, rfl, rfl, hother,
    rfl⟩

/-- Settles O11: the invariant at every draw of reset, and the model's reset is one of them. -/
theorem invariantAtReset : Obligations.InvariantAtReset := by
  have hmodel (cfg : Params) (env : Env) (hwf : cfg.wf) : (State.resetWith cfg env).Inv :=
    resetWith_eq_resetDrawing cfg env ▸ resetDrawing_inv env .modelled hwf
  exact ⟨fun _ env d hwf => resetDrawing_inv env d hwf, hmodel, hmodel _ _ (by decide)⟩

end Sys2Proof.Machine
